-- ==== Sys2Proof/Word.lean ====
section
/-! DEFINITION. The word types of the block: 64-bit register values (R9, R21) and binary64 patterns (R11, R35). -/

namespace Sys2Proof

/-- A 64-bit register value, the unit of every port transaction (R9, R21, R60). -/
abbrev Word := BitVec 64

/-- A binary64 datum as its 64-bit pattern: bit 63 sign, bits 62 to 52 exponent, bits 51 to 0 fraction (R35). -/
abbrev F64 := BitVec 64

/-- A byte offset on the host port (R60, R81). -/
abbrev Offset := BitVec 8

end Sys2Proof
end

