-- ==== Sys2Proof/Syntax.lean ====
section
/-! DEFINITION. The instruction set: the seven rows of spec/opcode_table.json, the two encoded formats of R80 (port
transactions and command words), the register names of R21 and the events of R72. -/

namespace Sys2Proof

/-- One row of spec/opcode_table.json each. `rd` and `wr` are the port transactions (R81): OFF, WIDTH in bytes, DATA.
The five commands have no operand (R84); each is one write of its word to CMD (R91). -/
inductive Instr where
  /-- RD: read the register at `off` (R61). -/
  | rd (off : Offset) (width : Nat)
  /-- WR: write `data` at `off` (R62); at offset 0x00 `data` is a command word. -/
  | wr (off : Offset) (width : Nat) (data : Word)
  /-- NOP (R156). -/
  | nop
  /-- SYNC (R157). -/
  | sync
  /-- UPDATE (R159, R160). -/
  | update
  /-- LOCK (R162). -/
  | lock
  /-- ABORT (R163). -/
  | abort
deriving DecidableEq, Repr

/-- The five assigned opcodes of format C (R83). -/
inductive Opcode where
  | nop
  | sync
  | update
  | lock
  | abort
deriving DecidableEq, Repr

/-- The instruction an opcode selects (R155). -/
def Opcode.instr : Opcode → Instr
  | .nop => .nop
  | .sync => .sync
  | .update => .update
  | .lock => .lock
  | .abort => .abort

/-- What the host puts on the port, encoded. Format T (R81): the 9-bit value with KIND above OFF, WIDTH in bytes,
DATA. Format C (R82): a command word, carried by an 8-byte write to CMD (R80, R91; log 8). -/
inductive Frame where
  | t (sel : BitVec 9) (width : Nat) (data : Word)
  | c (word : Word)
deriving DecidableEq, Repr

/-- The sources of steps (R72, R200): a port transaction, an `abort_async` event, an `rst` event. -/
inductive Event where
  | port (f : Frame)
  | abortAsync
  | rst
deriving DecidableEq, Repr

/-- The 31 registers of R21, in offset order. -/
inductive Reg where
  | cmd | status | err | haltCause
  | sampleAx | sampleAy | sampleAz | sampleGx | sampleGy | sampleGz
  | ts | sflags | cmdchar | live
  | biasGx | biasGy | biasGz | biasRoll | biasPitch | biasAz
  | roll | pitch | accRoll | accPitch | gyroRollRate | gyroPitchRate
  | prevTs | dtNs | faultCnt | livePrev | stallCnt
deriving DecidableEq, Repr

/-- The access classes of R21. -/
inductive Access where
  | wo | ro | rw | rwl
deriving DecidableEq, Repr

/-- The port's response codes (R63, R81). -/
inductive RespCode where
  | okay
  | slverr
deriving DecidableEq, Repr

/-- What the port returns with a transaction (R64, R81): a read also returns 64 bits. -/
structure Response where
  code : RespCode
  data : Option Word
deriving DecidableEq, Repr

/-- Command result codes (R170). -/
inductive ResultCode where
  | ok | illegal | halted | notcal | nots | tsrange | samplefault
deriving DecidableEq, Repr

/-- Halt causes (R171). -/
inductive HaltCause where
  | abortCmd | abortAsync | stopChar | roll | pitch | gyroX | gyroY | gyroZ | transport | liveness
deriving DecidableEq, Repr

/-- Why a frame is not an instruction: bits 63 to 8 of a command word set, an opcode not assigned (R82, R87), or a
transaction of no bytes (log 7). None of them stops the block: R87 and R63 say how the port answers. -/
inductive DecodeError where
  | reservedBits
  | reservedOpcode
  | zeroWidth
deriving DecidableEq, Repr

end Sys2Proof
end

