-- ==== Sys2Proof/WellFormed.lean ====
section
/-! DEFINITION. Which terms of `Instr` stand for something the host can put on the port. -/

namespace Sys2Proof

/-- A transaction moves at least one byte (log 7); the other bounds of R81 are in the operand types. A width other than
8 is well formed: the port answers it with SLVERR (R63). -/
def Instr.WellFormed : Instr → Bool
  | .rd _ width => decide (0 < width)
  | .wr _ width _ => decide (0 < width)
  | .nop => true
  | .sync => true
  | .update => true
  | .lock => true
  | .abort => true

end Sys2Proof
end

