-- ==== Sys2Proof/Decode.lean ====
section
/-! DEFINITION. Decoding and encoding of the two formats (R80 to R91), and the host's entry on opcode-table words. -/

namespace Sys2Proof

/-- R155, R82, R83: the command a 64-bit word selects, or why it selects none (R87). -/
def decodeCommand (w : Word) : Except DecodeError Opcode :=
  if w.extractLsb' 8 56 ≠ 0#56 then .error .reservedBits
  else
    match (w.extractLsb' 0 8).toNat with
    | 0x00 => .ok .nop
    | 0x01 => .ok .sync
    | 0x02 => .ok .update
    | 0x03 => .ok .lock
    | 0x04 => .ok .abort
    | _ => .error .reservedOpcode

/-- R81: KIND is bit 8 of the 9-bit value, 0 = read and 1 = write; OFF is bits 7 to 0; DATA is ignored for a read. -/
def decodeTransaction (sel : BitVec 9) (width : Nat) (data : Word) : Except DecodeError Instr :=
  if width = 0 then .error .zeroWidth
  else if sel.getLsbD 8 then .ok (.wr (sel.extractLsb' 0 8) width data)
  else .ok (.rd (sel.extractLsb' 0 8) width)

/-- The decoder: total on both formats (R89). -/
def decode : Frame → Except DecodeError Instr
  | .t sel width data => decodeTransaction sel width data
  | .c w =>
    match decodeCommand w with
    | .ok op => .ok op.instr
    | .error e => .error e

/-- The command word of an opcode (R83). -/
def commandWord : Opcode → Word
  | .nop => 0x0000000000000000#64
  | .sync => 0x0000000000000001#64
  | .update => 0x0000000000000002#64
  | .lock => 0x0000000000000003#64
  | .abort => 0x0000000000000004#64

/-- The encoder, from R81 (a read carries DATA 0) and R83. -/
def encode : Instr → Frame
  | .rd off width => .t (0#1 ++ off) width 0#64
  | .wr off width data => .t (1#1 ++ off) width data
  | .nop => .c (commandWord .nop)
  | .sync => .c (commandWord .sync)
  | .update => .c (commandWord .update)
  | .lock => .c (commandWord .lock)
  | .abort => .c (commandWord .abort)

/-- The frame of an opcode-table word: the 64-bit rows are format C; the 9-bit rows (in whole bytes, 16 bits) are format
T with the operands the pattern does not hold at WIDTH 8 and DATA 0 (R81; log 7). -/
def tableFrame (nbits w : Nat) : Frame :=
  if nbits < 64 then .t (BitVec.ofNat 9 w) 8 0#64 else .c (BitVec.ofNat 64 w)

/-- The instruction the decoder reads from an opcode-table word; none where it refuses or the word has a bit the format
does not have. -/
def decodeTableWord (nbits w : Nat) : Option Instr :=
  if w < (if nbits < 64 then 2 ^ 9 else 2 ^ 64) then
    match decode (tableFrame nbits w) with
    | .ok i => some i
    | .error _ => none
  else none

end Sys2Proof
end

