-- ==== Sys2Proof/Config.lean ====
section
/-! DEFINITION. The build parameters of R7 as one record of plain data (log 1), and the values the spec leaves open as
opaque constants: the NaN patterns (R11, I24; log 4), STOP_TOKEN (D17; log 2), an ATAN2 other than the reference (D3; log 3). -/

namespace Sys2Proof

/-- `FMT`: the one number format of the block (R7, D2). -/
inductive FloatFormat where
  | binary64
deriving DecidableEq, Repr

/-- `FUSION_FORM` (R7, D22): R115's recurrence, the default, or R116's alternative build. -/
inductive FusionForm where
  | multiplicative
  | additive
deriving DecidableEq, Repr

/-- `ATAN2` (R7, D3): the correctly rounded reference, or some other unit, of which nothing is assumed. -/
inductive Atan2Unit where
  | reference
  | other
deriving DecidableEq, Repr

/-- The parameters of R7, each with the default the rule gives. `stopToken = none` is the open parameter. -/
structure Config where
  /-- `FMT`. -/
  fmt : FloatFormat := .binary64
  /-- `ACC_FSR`, 2.0 g; read by no operation of the block (R102, C6). -/
  accFsr : F64 := 0x4000000000000000#64
  /-- `GYRO_FSR`, 500.0 °/s. -/
  gyroFsr : F64 := 0x407F400000000000#64
  /-- `HALF_RANGE`, 32768.0. -/
  halfRange : F64 := 0x40E0000000000000#64
  /-- `ALPHA`, 0.02. -/
  alpha : F64 := 0x3F947AE147AE147B#64
  /-- `ONE_MINUS_ALPHA`, 1.0 -f ALPHA. -/
  oneMinusAlpha : F64 := 0x3FEF5C28F5C28F5C#64
  /-- `NS_PER_S`, the integer; rules that need the binary64 value convert it. -/
  nsPerS : Nat := 1000000000
  /-- `ROLL_LIMIT`, 45.0 degrees. -/
  rollLimit : F64 := 0x4046800000000000#64
  /-- `PITCH_LIMIT`, 45.0 degrees. -/
  pitchLimit : F64 := 0x4046800000000000#64
  /-- `GYRO_LIMIT`, 300.0 °/s. -/
  gyroLimit : F64 := 0x4072C00000000000#64
  /-- `DEG_NUM`, 180.0. -/
  degNum : F64 := 0x4066800000000000#64
  /-- `PI`, the binary64 nearest π. -/
  pi : F64 := 0x400921FB54442D18#64
  /-- `ATAN2`. -/
  atan2 : Atan2Unit := .reference
  /-- `FUSION_FORM`. -/
  fusion : FusionForm := .multiplicative
  /-- `STOP_TOKEN`: OPEN (D17) unless the build names its byte. -/
  stopToken : Option (BitVec 8) := none
  /-- `FAULT_HALT_COUNT`, legal values 1 to 255. -/
  faultHaltCount : BitVec 8 := 2#8
  /-- `LIVENESS_TIMEOUT`, 0 = disabled, legal values 0 to 2^32 - 1. -/
  livenessTimeout : BitVec 32 := 0#32
  /-- `N_CAL`, host side only (R175). -/
  nCal : Nat := 1000
deriving DecidableEq, Repr

/-- The block built with every parameter at R7's default. -/
def Config.defaults : Config := {}

/-- Free value (log 4): the bits behind the `n`-th NaN result; R11 and I24 leave sign and payload open. -/
opaque Config.nanBits : Nat → BitVec 64

/-- Free value (log 2): the byte STOP_TOKEN of a build that names none (D17). -/
opaque Config.openStopToken : BitVec 8

/-- Free value (log 3): an ATAN2 that is not the reference; D3 lets a model assume only named properties, none is assumed. -/
opaque Config.otherAtan2 : F64 → F64 → F64

/-- The byte UPDATE compares CMDCHAR.CHAR with (R134). -/
def Config.stopByte (c : Config) : BitVec 8 := c.stopToken.getD Config.openStopToken

end Sys2Proof
end

