-- ==== Sys2Proof/Machine/Float.lean ====
section
/-! DEFINITION. IEEE 754 binary64 arithmetic as R11 and D2 give it: round to nearest, ties to even, subnormals kept, no
flags. A finite datum is an integer multiple of the unit 2^-1074, so every result is an exact ratio of integers rounded
once. The rules for infinities, zeros and NaN operands are IEEE 754's (G1 to G3, G6, G7; log 11). -/

namespace Sys2Proof.Machine

/-- The magnitude pattern (bits 62 to 0) of infinity. -/
def infMag : Nat := 0x7FF0000000000000

/-- How many units 2^-1074 make 1.0, as a power of two. -/
def unitExp : Nat := 1074

/-- The sign bit. -/
def signOf (a : F64) : Bool := a.getLsbD 63

/-- Bits 62 to 0. -/
def magOf (a : F64) : Nat := a.toNat % 2 ^ 63

/-- Exponent all ones, fraction nonzero (I24). -/
def isNaN (a : F64) : Bool := decide (infMag < magOf a)

/-- Plus or minus infinity. -/
def isInf (a : F64) : Bool := decide (magOf a = infMag)

/-- Plus or minus zero. -/
def isZero (a : F64) : Bool := decide (magOf a = 0)

/-- Neither infinite nor a NaN. -/
def isFinite (a : F64) : Bool := decide (magOf a < infMag)

/-- `negf` flips the sign bit, of a NaN too (R11). -/
def negf (a : F64) : F64 := a ^^^ 0x8000000000000000#64

/-- `fabs` clears the sign bit (R11). -/
def fabs (a : F64) : F64 := a &&& 0x7FFFFFFFFFFFFFFF#64

/-- The NaN pattern made of 64 bits: exponent all ones, and the lowest fraction bit set if the fraction was zero. Every
NaN pattern is made from itself. -/
def nanPattern (b : BitVec 64) : F64 :=
  if b.extractLsb' 0 52 = 0#52 then b ||| 0x7FF0000000000001#64 else b ||| 0x7FF0000000000000#64

/-- The `d`-th NaN result: some NaN, whose sign and payload are free (R11, I24; log 4). -/
def freeNaN (d : Nat) : F64 := nanPattern (Config.nanBits d)

/-- The pattern with a sign and a magnitude. -/
def pack (neg : Bool) (mag : Nat) : F64 :=
  BitVec.ofNat 64 ((if neg then 2 ^ 63 else 0) + mag)

/-- The value of a finite magnitude pattern, in units of 2^-1074: subnormals are the pattern itself, a normal with
exponent field `e` and fraction `f` is (2^52 + f) * 2^(e-1). -/
def magUnits (m : Nat) : Nat :=
  if m / 2 ^ 52 = 0 then m else (2 ^ 52 + m % 2 ^ 52) * 2 ^ (m / 2 ^ 52 - 1)

/-- The magnitude of a finite datum, in units. -/
def unitsOf (a : F64) : Nat := magUnits (magOf a)

/-- A finite datum with its sign, in units. -/
def signedUnits (a : F64) : Int := if signOf a then -(unitsOf a : Int) else (unitsOf a : Int)

/-- `n / d` rounded to the nearest integer, ties to even. -/
def rneDiv (n d : Nat) : Nat :=
  if 2 * (n % d) < d then n / d
  else if 2 * (n % d) = d ∧ n / d % 2 = 0 then n / d
  else n / d + 1

/-- The magnitude pattern nearest `num / den` units, ties to even. With k the excess over 53 significant bits, the
pattern is k exponent steps above the rounded significand; a carry out of the significand and the overflow to infinity
come out of the same sum. -/
def roundMag (num den : Nat) : Nat :=
  min infMag ((Nat.log2 (num / den) - 52) * 2 ^ 52 + rneDiv num (den * 2 ^ (Nat.log2 (num / den) - 52)))

/-- `a +f b`; `d` indexes the free NaN. An exact zero sum is +0.0 unless both operands are negative. -/
def fadd (d : Nat) (a b : F64) : F64 :=
  if isNaN a || isNaN b then freeNaN d
  else if isInf a then (if isInf b && (signOf a != signOf b) then freeNaN d else a)
  else if isInf b then b
  else if signedUnits a + signedUnits b = 0 then pack (signOf a && signOf b) 0
  else pack (decide (signedUnits a + signedUnits b < 0)) (roundMag (signedUnits a + signedUnits b).natAbs 1)

/-- `a -f b`. -/
def fsub (d : Nat) (a b : F64) : F64 := fadd d a (negf b)

/-- `a *f b`. -/
def fmul (d : Nat) (a b : F64) : F64 :=
  if isNaN a || isNaN b then freeNaN d
  else if isInf a || isInf b then
    (if isZero a || isZero b then freeNaN d else pack (signOf a != signOf b) infMag)
  else pack (signOf a != signOf b) (roundMag (unitsOf a * unitsOf b) (2 ^ unitExp))

/-- `a /f b`. -/
def fdiv (d : Nat) (a b : F64) : F64 :=
  if isNaN a || isNaN b then freeNaN d
  else if isInf a then (if isInf b then freeNaN d else pack (signOf a != signOf b) infMag)
  else if isInf b then pack (signOf a != signOf b) 0
  else if isZero b then (if isZero a then freeNaN d else pack (signOf a != signOf b) infMag)
  else pack (signOf a != signOf b) (roundMag (unitsOf a * 2 ^ unitExp) (unitsOf b))

/-- `f64(i)` (R11): exact for magnitudes up to 2^53, to nearest beyond; 0 gives +0.0. -/
def f64OfInt (i : Int) : F64 := pack (decide (i < 0)) (roundMag (i.natAbs * 2 ^ unitExp) 1)

/-- The order of non-NaN data as integers; both zeros are 0. -/
def orderKey (a : F64) : Int := if signOf a then -(magOf a : Int) else (magOf a : Int)

/-- `a <=f b`: the ordered comparison, false when either operand is a NaN (R11). -/
def fle (a b : F64) : Bool := !isNaN a && !isNaN b && decide (orderKey a ≤ orderKey b)

end Sys2Proof.Machine
end

