-- ==== Sys2Proof/Machine/Atan2.lean ====
section
/-! DEFINITION. ATAN2 (R7, R112, D3): the correctly rounded binary64 atan2 with the usual special values (G5). For
0 < y ≤ x, Euler's series atan(y/x) = Σ tₙ, t₀ = xy/(x²+y²), tₙ₊₁ = tₙ · (2n+2)/(2n+3) · y²/(x²+y²), is summed in fixed
point; all terms are positive and each is at most half the one before (log 3). -/

namespace Sys2Proof.Machine

/-- The terms after `t`, the `n`-th term in fixed point, added to `acc`; a term that is 0 ends the sum. -/
def eulerTail (yy ss : Nat) : Nat → Nat → Nat → Nat → Nat
  | 0, _, _, acc => acc
  | fuel + 1, n, t, acc =>
    if t = 0 then acc
    else
      eulerTail yy ss fuel (n + 1) (t * (2 * n + 2) * yy / ((2 * n + 3) * ss))
        (acc + t * (2 * n + 2) * yy / ((2 * n + 3) * ss))

/-- atan(y/x) · 2^p for 0 < y ≤ x, from below by less than 2(p + 3). -/
def atanFix (p y x : Nat) : Nat :=
  eulerTail (y * y) (x * x + y * y) (p + 1) 0 (2 ^ p * (x * y) / (x * x + y * y))
    (2 ^ p * (x * y) / (x * x + y * y))

/-- Fraction bits for the operands: 256, and three times the bits by which their ratio is small. -/
def atanBits (y x : Nat) : Nat :=
  256 + 3 * (Nat.log2 (max y x) - Nat.log2 (min y x))

/-- The angle of the point (x, y) in the upper half plane, y > 0 and `xneg` the sign of its abscissa of size `x`, times
2^p: from atan of the smaller over the larger, by octants; π is 4 atan(1). -/
def angleFix (p y x : Nat) (xneg : Bool) : Nat :=
  if y ≤ x then
    (if xneg then 4 * atanFix p 1 1 - atanFix p y x else atanFix p y x)
  else if x = 0 then 2 * atanFix p 1 1
  else if xneg then 2 * atanFix p 1 1 + atanFix p x y
  else 2 * atanFix p 1 1 - atanFix p x y

/-- The magnitude pattern of the angle, rounded to nearest. -/
def angleMag (y x : Nat) (xneg : Bool) : Nat :=
  roundMag (angleFix (atanBits y x) y x xneg * 2 ^ unitExp) (2 ^ atanBits y x)

/-- A bound on the error of `angleFix`, in its last place. -/
def angleError (y x : Nat) : Nat := 16 * (atanBits y x + 3)

/-- Whether every angle within the error bound rounds to the same pattern, so that `angleMag` is the correctly rounded
one. -/
def angleCertified (y x : Nat) (xneg : Bool) : Bool :=
  let p := atanBits y x
  let v := angleFix p y x xneg
  decide (roundMag ((v - angleError y x) * 2 ^ unitExp) (2 ^ p) = roundMag ((v + angleError y x) * 2 ^ unitExp) (2 ^ p))

/-- The magnitude patterns of π, π/2, π/4 and 3π/4, each rounded to nearest. -/
def piMag : Nat := 0x400921FB54442D18
/-- π/2. -/
def halfPiMag : Nat := 0x3FF921FB54442D18
/-- π/4. -/
def quarterPiMag : Nat := 0x3FE921FB54442D18
/-- 3π/4. -/
def threeQuarterPiMag : Nat := 0x4002D97C7F3321D2

/-- The size of the reference atan2's result for operands that are no NaN; its sign is that of `y`. -/
def refAtan2Mag (y x : F64) : Nat :=
  if isInf y then
    (if isInf x then (if signOf x then threeQuarterPiMag else quarterPiMag) else halfPiMag)
  else if isInf x then (if signOf x then piMag else 0)
  else if isZero y then (if signOf x then piMag else 0)
  else if isZero x then halfPiMag
  else angleMag (unitsOf y) (unitsOf x) (signOf x)

/-- The reference ATAN2: odd in `y`, correctly rounded (D3); `d` indexes the free NaN. -/
def refAtan2 (d : Nat) (y x : F64) : F64 :=
  if isNaN y || isNaN x then freeNaN d else pack (signOf y) (refAtan2Mag y x)

/-- The ATAN2 of a build (R7). -/
def atan2Of (c : Config) (d : Nat) (y x : F64) : F64 :=
  match c.atan2 with
  | .reference => refAtan2 d y x
  | .other => Config.otherAtan2 y x

end Sys2Proof.Machine
end

