-- ==== Sys2Proof/Machine/State.lean ====
section
/-! DEFINITION. The state of the block: the registers of R21 as the fields the rules name (reserved bits are constant
zero, R22, log 9), the build's parameters, and the model's own fields. -/

namespace Sys2Proof.Machine

/-- The input registers, written by the host only (R29, R30, R32, R33, R34, R45). -/
structure Inputs where
  /-- SAMPLE_AX, {HI, LO} (R29). -/
  sampleAx : BitVec 16 := 0#16
  /-- SAMPLE_AY. -/
  sampleAy : BitVec 16 := 0#16
  /-- SAMPLE_AZ. -/
  sampleAz : BitVec 16 := 0#16
  /-- SAMPLE_GX. -/
  sampleGx : BitVec 16 := 0#16
  /-- SAMPLE_GY. -/
  sampleGy : BitVec 16 := 0#16
  /-- SAMPLE_GZ. -/
  sampleGz : BitVec 16 := 0#16
  /-- TS.NS (R30). -/
  ts : BitVec 30 := 0#30
  /-- SFLAGS.SFAULT (R32). -/
  sfault : BitVec 1 := 0#1
  /-- CMDCHAR: VALID is bit 8, CHAR bits 7 to 0 (R33). -/
  cmdchar : BitVec 9 := 0#9
  /-- LIVE.COUNT (R34). -/
  live : BitVec 32 := 0#32
deriving DecidableEq, Repr

/-- The six bias registers, the document's CalibrationBias (R36). -/
structure Bias where
  /-- BIAS_GX. -/
  gx : F64 := 0#64
  /-- BIAS_GY. -/
  gy : F64 := 0#64
  /-- BIAS_GZ, read by no operation (R37). -/
  gz : F64 := 0#64
  /-- BIAS_ROLL. -/
  roll : F64 := 0#64
  /-- BIAS_PITCH. -/
  pitch : F64 := 0#64
  /-- BIAS_AZ, read by no operation (R37). -/
  az : F64 := 0#64
deriving DecidableEq, Repr

/-- The registers written by a good UPDATE only: the estimate (R38), the telemetry (R39) and DT_NS (R42). -/
structure Estimate where
  /-- ROLL. -/
  roll : F64 := 0#64
  /-- PITCH. -/
  pitch : F64 := 0#64
  /-- ACC_ROLL. -/
  accRoll : F64 := 0#64
  /-- ACC_PITCH. -/
  accPitch : F64 := 0#64
  /-- GYRO_ROLL_RATE. -/
  gyroRollRate : F64 := 0#64
  /-- GYRO_PITCH_RATE. -/
  gyroPitchRate : F64 := 0#64
  /-- DT_NS.NS. -/
  dtNs : BitVec 30 := 0#30
deriving DecidableEq, Repr

/-- The whole machine. `cfg`, `draws`, `resp` and `inbox` are the model's own (log 1, 4, 6, 5); every other field is a
register of R21, and its default is the reset value of R201. -/
structure State where
  /-- The parameters the block was built with (R7); no step changes them. -/
  cfg : Config := Config.defaults
  /-- STATUS.RUN: true is RUNNING (R24). -/
  run : Bool := true
  /-- STATUS.BIAS_LOCKED (R25). -/
  biasLocked : Bool := false
  /-- STATUS.TS_VALID (R26). -/
  tsValid : Bool := false
  /-- ERR.CODE (R27). -/
  err : BitVec 8 := 0#8
  /-- HALT_CAUSE (R28). -/
  haltCause : BitVec 10 := 0#10
  /-- The input registers. -/
  inputs : Inputs := {}
  /-- The bias registers. -/
  bias : Bias := {}
  /-- The estimate, the telemetry and DT_NS. -/
  est : Estimate := {}
  /-- PREV_TS.NS (R41). -/
  prevTs : BitVec 30 := 0#30
  /-- FAULT_CNT.COUNT (R43). -/
  faultCnt : BitVec 8 := 0#8
  /-- LIVE_PREV.COUNT (R44). -/
  livePrev : BitVec 32 := 0#32
  /-- STALL_CNT.COUNT (R44). -/
  stallCnt : BitVec 32 := 0#32
  /-- Index of the next free NaN pattern (log 4). -/
  draws : Nat := 0
  /-- The port's answer to the latest transaction (R64), none before the first one. -/
  resp : Option Response := none
  /-- What the host and the event sources do next, in order (R72). -/
  inbox : List Event := []
deriving DecidableEq, Repr

/-- Faults: NONE. Every transaction is answered (R63, R64) and every command ends with a code (R170), so the type has no
constructor and no step can end in one (log 13). -/
inductive Fault where
deriving DecidableEq, Repr

/-- Refusals. -/
inductive Refusal where
  /-- An instruction without a meaning; only an arm of `exec` may raise it, and no arm of this model does. Safe: nothing
  is proved of a refused step. -/
  | notModelled (mnemonic : String)
deriving DecidableEq, Repr

/-- The block right after `rst` (R201, R21), built with the default parameters, with nothing on the port. -/
def State.reset : State := {}

/-- The output `halt_o`: NOT STATUS.RUN at every moment (R31). -/
def State.haltO (s : State) : Bool := !s.run

end Sys2Proof.Machine
end

