-- ==== Sys2Proof/Machine/Operands.lean ====
section
/-! DEFINITION. The register map (R21), how a register is read and written on the port (R22, R61, R62), and the operands
the commands assemble from the registers (R84, R85, R86). -/

namespace Sys2Proof.Machine

/-- R21, R60: the register in a slot; slot 31 is reserved. -/
def slotReg (k : Nat) : Option Reg :=
  match k with
  | 0 => some .cmd
  | 1 => some .status
  | 2 => some .err
  | 3 => some .haltCause
  | 4 => some .sampleAx
  | 5 => some .sampleAy
  | 6 => some .sampleAz
  | 7 => some .sampleGx
  | 8 => some .sampleGy
  | 9 => some .sampleGz
  | 10 => some .ts
  | 11 => some .sflags
  | 12 => some .cmdchar
  | 13 => some .live
  | 14 => some .biasGx
  | 15 => some .biasGy
  | 16 => some .biasGz
  | 17 => some .biasRoll
  | 18 => some .biasPitch
  | 19 => some .biasAz
  | 20 => some .roll
  | 21 => some .pitch
  | 22 => some .accRoll
  | 23 => some .accPitch
  | 24 => some .gyroRollRate
  | 25 => some .gyroPitchRate
  | 26 => some .prevTs
  | 27 => some .dtNs
  | 28 => some .faultCnt
  | 29 => some .livePrev
  | 30 => some .stallCnt
  | _ => none

/-- R60, R63: the register at an offset: slot k is at offset 8k; none where the offset is not a multiple of 8 or is 0xF8. -/
def regAt (off : Offset) : Option Reg :=
  if off.toNat % 8 = 0 then slotReg (off.toNat / 8) else none

/-- R21: the offset of a register. -/
def regOffset : Reg → Offset
  | .cmd => 0x00#8
  | .status => 0x08#8
  | .err => 0x10#8
  | .haltCause => 0x18#8
  | .sampleAx => 0x20#8
  | .sampleAy => 0x28#8
  | .sampleAz => 0x30#8
  | .sampleGx => 0x38#8
  | .sampleGy => 0x40#8
  | .sampleGz => 0x48#8
  | .ts => 0x50#8
  | .sflags => 0x58#8
  | .cmdchar => 0x60#8
  | .live => 0x68#8
  | .biasGx => 0x70#8
  | .biasGy => 0x78#8
  | .biasGz => 0x80#8
  | .biasRoll => 0x88#8
  | .biasPitch => 0x90#8
  | .biasAz => 0x98#8
  | .roll => 0xA0#8
  | .pitch => 0xA8#8
  | .accRoll => 0xB0#8
  | .accPitch => 0xB8#8
  | .gyroRollRate => 0xC0#8
  | .gyroPitchRate => 0xC8#8
  | .prevTs => 0xD0#8
  | .dtNs => 0xD8#8
  | .faultCnt => 0xE0#8
  | .livePrev => 0xE8#8
  | .stallCnt => 0xF0#8

/-- R164: where the register sits in the host's address space, for the platform's `QAFS_BASE` (R60). -/
def hostAddress (qafsBase : Nat) (r : Reg) : Nat := qafsBase + (regOffset r).toNat

/-- The access column of R21. -/
def regAccess : Reg → Access
  | .cmd => .wo
  | .sampleAx | .sampleAy | .sampleAz | .sampleGx | .sampleGy | .sampleGz => .rw
  | .ts | .sflags | .cmdchar | .live => .rw
  | .biasGx | .biasGy | .biasGz | .biasRoll | .biasPitch | .biasAz => .rwl
  | .status | .err | .haltCause => .ro
  | .roll | .pitch | .accRoll | .accPitch | .gyroRollRate | .gyroPitchRate => .ro
  | .prevTs | .dtNs | .faultCnt | .livePrev | .stallCnt => .ro

/-- STATUS: RUN is bit 0, BIAS_LOCKED bit 1, TS_VALID bit 2 (R24, R25, R26). -/
def statusWord (s : State) : Word :=
  BitVec.setWidth 64 (BitVec.ofBool s.tsValid ++ BitVec.ofBool s.biasLocked ++ BitVec.ofBool s.run)

/-- R61, R22: a register's value with every reserved bit 0; CMD reads 0 (R23). -/
def readReg (s : State) : Reg → Word
  | .cmd => 0#64
  | .status => statusWord s
  | .err => s.err.setWidth 64
  | .haltCause => s.haltCause.setWidth 64
  | .sampleAx => s.inputs.sampleAx.setWidth 64
  | .sampleAy => s.inputs.sampleAy.setWidth 64
  | .sampleAz => s.inputs.sampleAz.setWidth 64
  | .sampleGx => s.inputs.sampleGx.setWidth 64
  | .sampleGy => s.inputs.sampleGy.setWidth 64
  | .sampleGz => s.inputs.sampleGz.setWidth 64
  | .ts => s.inputs.ts.setWidth 64
  | .sflags => s.inputs.sfault.setWidth 64
  | .cmdchar => s.inputs.cmdchar.setWidth 64
  | .live => s.inputs.live.setWidth 64
  | .biasGx => s.bias.gx
  | .biasGy => s.bias.gy
  | .biasGz => s.bias.gz
  | .biasRoll => s.bias.roll
  | .biasPitch => s.bias.pitch
  | .biasAz => s.bias.az
  | .roll => s.est.roll
  | .pitch => s.est.pitch
  | .accRoll => s.est.accRoll
  | .accPitch => s.est.accPitch
  | .gyroRollRate => s.est.gyroRollRate
  | .gyroPitchRate => s.est.gyroPitchRate
  | .prevTs => s.prevTs.setWidth 64
  | .dtNs => s.est.dtNs.setWidth 64
  | .faultCnt => s.faultCnt.setWidth 64
  | .livePrev => s.livePrev.setWidth 64
  | .stallCnt => s.stallCnt.setWidth 64

/-- R62: what an accepted write stores: the fields of an input register, the whole of a bias register; a register the
host cannot write keeps its value (R45). -/
def storeReg (r : Reg) (v : Word) (s : State) : State :=
  match r with
  | .sampleAx => { s with inputs := { s.inputs with sampleAx := v.setWidth 16 } }
  | .sampleAy => { s with inputs := { s.inputs with sampleAy := v.setWidth 16 } }
  | .sampleAz => { s with inputs := { s.inputs with sampleAz := v.setWidth 16 } }
  | .sampleGx => { s with inputs := { s.inputs with sampleGx := v.setWidth 16 } }
  | .sampleGy => { s with inputs := { s.inputs with sampleGy := v.setWidth 16 } }
  | .sampleGz => { s with inputs := { s.inputs with sampleGz := v.setWidth 16 } }
  | .ts => { s with inputs := { s.inputs with ts := v.setWidth 30 } }
  | .sflags => { s with inputs := { s.inputs with sfault := v.setWidth 1 } }
  | .cmdchar => { s with inputs := { s.inputs with cmdchar := v.setWidth 9 } }
  | .live => { s with inputs := { s.inputs with live := v.setWidth 32 } }
  | .biasGx => { s with bias := { s.bias with gx := v } }
  | .biasGy => { s with bias := { s.bias with gy := v } }
  | .biasGz => { s with bias := { s.bias with gz := v } }
  | .biasRoll => { s with bias := { s.bias with roll := v } }
  | .biasPitch => { s with bias := { s.bias with pitch := v } }
  | .biasAz => { s with bias := { s.bias with az := v } }
  | .cmd | .status | .err | .haltCause => s
  | .roll | .pitch | .accRoll | .accPitch | .gyroRollRate | .gyroPitchRate => s
  | .prevTs | .dtNs | .faultCnt | .livePrev | .stallCnt => s

/-- R100, R85: the signed raw value of a sample word {HI, LO}. -/
def raw (w : BitVec 16) : Int :=
  if (w.extractLsb' 8 8).toNat * 256 + (w.extractLsb' 0 8).toNat > 32767 then
    ((w.extractLsb' 8 8).toNat * 256 + (w.extractLsb' 0 8).toNat : Int) - 65536
  else ((w.extractLsb' 8 8).toNat * 256 + (w.extractLsb' 0 8).toNat : Int)

/-- R86: the timestamp operand, an unsigned integer. -/
def tsOf (s : State) : Nat := s.inputs.ts.toNat

/-- R33, R86: CMDCHAR.VALID. -/
def charValid (s : State) : Bool := s.inputs.cmdchar.getLsbD 8

/-- R33, R86: CMDCHAR.CHAR. -/
def charOf (s : State) : BitVec 8 := s.inputs.cmdchar.extractLsb' 0 8

end Sys2Proof.Machine
end

