-- ==== Sys2Proof/Machine/Filter.lean ====
section
/-! DEFINITION. The input stage and the complementary filter: R100 to R106 and R110 to R118, pure functions of the state
at the start of the UPDATE and its commit. The first argument of a float operation only indexes its NaN (log 4). -/

namespace Sys2Proof.Machine

/-- R101: `(f64(value) *f fsr) /f HALF_RANGE`. -/
def scale (c : Config) (d : Nat) (value : Int) (fsr : F64) : F64 :=
  fdiv (d + 1) (fmul d (f64OfInt value) fsr) c.halfRange

/-- R102: a gyroscope word's physical rate in °/s. -/
def gyroRate (c : Config) (d : Nat) (w : BitVec 16) : F64 := scale c d (raw w) c.gyroFsr

/-- R104: a rate less its bias. -/
def debiasRate (d : Nat) (rate bias : F64) : F64 := fsub d rate bias

/-- R105: `negf(bias) +f deg`. -/
def debiasAngle (d : Nat) (deg bias : F64) : F64 := fadd d (negf bias) deg

/-- R110: the corrected delta in nanoseconds; a difference that is not positive gets one second more. -/
def dtDelta (c : Config) (ts prev : Nat) : Int :=
  if (ts : Int) - (prev : Int) ≤ 0 then (ts : Int) - (prev : Int) + (c.nsPerS : Int) else (ts : Int) - (prev : Int)

/-- R111: the delta in seconds, one division (D13). -/
def dtSeconds (c : Config) (d : Nat) (delta : Int) : F64 := fdiv d (f64OfInt delta) (f64OfInt (c.nsPerS : Int))

/-- R112: the inclination in degrees from raw values: the integer `az` is negated first (D5). -/
def incl (c : Config) (d : Nat) (num az : Int) : F64 :=
  fdiv (d + 2) (fmul (d + 1) (atan2Of c d (f64OfInt num) (f64OfInt (-az))) c.degNum) c.pi

/-- R114: a de-biased rate over the delta. -/
def deltaAngle (d : Nat) (rate dt : F64) : F64 := fmul d rate dt

/-- R115, R116: the fusion of one axis, in the build's form. -/
def fuse (c : Config) (d : Nat) (accel delta prev : F64) : F64 :=
  match c.fusion with
  | .multiplicative =>
    fadd (d + 3) (fmul d accel c.alpha) (fmul (d + 2) c.oneMinusAlpha (fmul (d + 1) delta prev))
  | .additive =>
    fadd (d + 3) (fmul d accel c.alpha) (fmul (d + 2) c.oneMinusAlpha (fadd (d + 1) prev delta))

/-- What R117's filter returns. -/
structure FilterOut where
  roll : F64
  pitch : F64
  accRoll : F64
  accPitch : F64
  rateRoll : F64
  ratePitch : F64
  /-- The delta in nanoseconds. -/
  delta : Int
  gx : F64
  gy : F64
  gz : F64
deriving DecidableEq, Repr

/-- How many free-NaN indices one filter evaluation has: one for each of its operators. -/
def filterDraws : Nat := 27

/-- R104, R102: the roll rate is the gyro-y rate less BIAS_GY. -/
def rollRate (s : State) : F64 := debiasRate (s.draws + 15) (gyroRate s.cfg (s.draws + 2) s.inputs.sampleGy) s.bias.gy

/-- R104, R102: the pitch rate is the gyro-x rate less BIAS_GX. -/
def pitchRate (s : State) : F64 := debiasRate (s.draws + 16) (gyroRate s.cfg s.draws s.inputs.sampleGx) s.bias.gx

/-- R113: the accelerometer roll, from the y channel. -/
def accelRoll (s : State) : F64 :=
  debiasAngle (s.draws + 13) (incl s.cfg (s.draws + 7) (raw s.inputs.sampleAy) (raw s.inputs.sampleAz)) s.bias.roll

/-- R113: the accelerometer pitch, from the x channel. -/
def accelPitch (s : State) : F64 :=
  debiasAngle (s.draws + 14) (incl s.cfg (s.draws + 10) (raw s.inputs.sampleAx) (raw s.inputs.sampleAz)) s.bias.pitch

/-- R110: this UPDATE's delta in nanoseconds. -/
def updateDelta (s : State) : Int := dtDelta s.cfg (tsOf s) s.prevTs.toNat

/-- R111: this UPDATE's delta in seconds. -/
def updateSeconds (s : State) : F64 := dtSeconds s.cfg (s.draws + 6) (updateDelta s)

/-- R117: the filter, all of it from the state at the start of the UPDATE. -/
def filter (s : State) : FilterOut where
  roll := fuse s.cfg (s.draws + 19) (accelRoll s) (deltaAngle (s.draws + 17) (rollRate s) (updateSeconds s)) s.est.roll
  pitch := fuse s.cfg (s.draws + 23) (accelPitch s) (deltaAngle (s.draws + 18) (pitchRate s) (updateSeconds s)) s.est.pitch
  accRoll := accelRoll s
  accPitch := accelPitch s
  rateRoll := rollRate s
  ratePitch := pitchRate s
  delta := updateDelta s
  gx := gyroRate s.cfg s.draws s.inputs.sampleGx
  gy := gyroRate s.cfg (s.draws + 2) s.inputs.sampleGy
  gz := gyroRate s.cfg (s.draws + 4) s.inputs.sampleGz

/-- R118: the commit of a good UPDATE; the free-NaN index moves past the ones the filter had. -/
def commit (r : FilterOut) (s : State) : State :=
  { s with
    est :=
      { roll := r.roll
        pitch := r.pitch
        accRoll := r.accRoll
        accPitch := r.accPitch
        gyroRollRate := r.rateRoll
        gyroPitchRate := r.ratePitch
        dtNs := BitVec.ofInt 30 r.delta }
    prevTs := s.inputs.ts
    draws := s.draws + filterDraws }

end Sys2Proof.Machine
end

