-- ==== Sys2Proof/Machine/Ops.lean ====
section
/-! DEFINITION. The named operations over the registers: result codes, port responses, the latching halt (the block's
one trap-like event, R174), the reset (the only way out of it, R177), and the counters. -/

namespace Sys2Proof.Machine

/-- R170: the code of a result. -/
def resultCode : ResultCode → BitVec 8
  | .ok => 0x00#8
  | .illegal => 0x01#8
  | .halted => 0x02#8
  | .notcal => 0x03#8
  | .nots => 0x04#8
  | .tsrange => 0x05#8
  | .samplefault => 0x06#8

/-- R171, R28: the bit position of a halt cause. -/
def causePos : HaltCause → Nat
  | .abortCmd => 0
  | .abortAsync => 1
  | .stopChar => 2
  | .roll => 3
  | .pitch => 4
  | .gyroX => 5
  | .gyroY => 6
  | .gyroZ => 7
  | .transport => 8
  | .liveness => 9

/-- The mask with the one bit of a cause. -/
def causeBit (c : HaltCause) : BitVec 10 := 1#10 <<< causePos c

/-- The bit of a cause, if its condition holds. -/
def flag (b : Bool) (c : HaltCause) : BitVec 10 := if b then causeBit c else 0#10

/-- `ERR <- code` (R27). -/
def setErr (c : ResultCode) (s : State) : State := { s with err := resultCode c }

/-- What the port returns with the transaction (R64). -/
def respond (code : RespCode) (data : Option Word) (s : State) : State := { s with resp := some ⟨code, data⟩ }

/-- An accepted write: OKAY (R62). -/
def okayWrite (s : State) : State := respond .okay none s

/-- An accepted read: OKAY and the value (R61). -/
def okayRead (v : Word) (s : State) : State := respond .okay (some v) s

/-- A refused write: SLVERR, no state change (R63). -/
def slverrWrite (s : State) : State := respond .slverr none s

/-- A refused read: SLVERR with data 0, no state change (R63). -/
def slverrRead (s : State) : State := respond .slverr (some 0#64) s

/-- R141: `halt(mask)`, taking the block's one exception: RUN is cleared and the cause mask saved, if RUN was set. -/
def halt (mask : BitVec 10) (s : State) : State :=
  if s.run then { s with run := false, haltCause := mask } else s

/-- R136, R139: `if mask != 0: halt(mask)`. -/
def haltIf (mask : BitVec 10) (s : State) : State :=
  if mask = 0#10 then s else halt mask s

/-- R201: `rst`: every register takes its reset value in one step. The build's parameters, what the host does next and
the index of the free values are no registers (log 1, 5, 4). -/
def resetBlock (s : State) : State :=
  { State.reset with cfg := s.cfg, draws := s.draws, inbox := s.inbox }

/-- One more, saturating at the largest value of the width: sat_N (R10, R43, R44). -/
def satInc {w : Nat} (v : BitVec w) : BitVec w := BitVec.ofNat w (min (v.toNat + 1) (2 ^ w - 1))

/-- R139: `FAULT_CNT <- sat_8(FAULT_CNT + 1)`. -/
def countFault (s : State) : State := { s with faultCnt := satInc s.faultCnt }

/-- R138: `FAULT_CNT <- 0`. -/
def clearFaults (s : State) : State := { s with faultCnt := 0#8 }

/-- R135: the liveness update. -/
def livenessUpdate (s : State) : State :=
  { s with
    stallCnt := if s.inputs.live = s.livePrev then satInc s.stallCnt else 0#32
    livePrev := s.inputs.live }

/-- R157: `PREV_TS <- TS.NS ; STATUS.TS_VALID <- 1`. -/
def latchTs (s : State) : State := { s with prevTs := s.inputs.ts, tsValid := true }

/-- R162: `STATUS.BIAS_LOCKED <- 1`. -/
def lockBias (s : State) : State := { s with biasLocked := true }

/-- R13: `raise Reject(code)`: ERR and nothing else. -/
def reject (c : ResultCode) (s : State) : State := setErr c s

end Sys2Proof.Machine
end

