-- ==== Sys2Proof/Machine/Flags.lean ====
section
/-! DEFINITION. The safety comparator: the conditions of R131 to R135 and R139, and the masks made of them (R136, R139).
A condition reads the registers as they stand when it is evaluated: after the commit and the counter updates. -/

namespace Sys2Proof.Machine

/-- `NOT (fabs(x) <=f limit)`: a NaN is a violation (R131, D16). -/
def exceeds (x limit : F64) : Bool := !fle (fabs x) limit

/-- R131. -/
def violRoll (s : State) : Bool := exceeds s.est.roll s.cfg.rollLimit

/-- R132. -/
def violPitch (s : State) : Bool := exceeds s.est.pitch s.cfg.pitchLimit

/-- R133: of a physical rate before bias subtraction. -/
def violGyro (c : Config) (rate : F64) : Bool := exceeds rate c.gyroLimit

/-- R134. -/
def violStop (s : State) : Bool := charValid s && decide (charOf s = s.cfg.stopByte)

/-- R135: STALL_CNT after the update. -/
def violLive (s : State) : Bool :=
  decide (0 < s.cfg.livenessTimeout.toNat) && decide (s.cfg.livenessTimeout.toNat ≤ s.stallCnt.toNat)

/-- R139: FAULT_CNT after the increment. -/
def violTransport (s : State) : Bool := decide (s.cfg.faultHaltCount.toNat ≤ s.faultCnt.toNat)

/-- R136: the mask of a good UPDATE, from this UPDATE's physical rates and the state after commit and liveness update. -/
def goodMask (gx gy gz : F64) (s : State) : BitVec 10 :=
  flag (violStop s) .stopChar ||| flag (violRoll s) .roll ||| flag (violPitch s) .pitch
    ||| flag (violGyro s.cfg gx) .gyroX ||| flag (violGyro s.cfg gy) .gyroY ||| flag (violGyro s.cfg gz) .gyroZ
    ||| flag (violLive s) .liveness

/-- R139: the mask of a faulted UPDATE; no roll, pitch or gyro condition is evaluated. -/
def faultMask (s : State) : BitVec 10 :=
  flag (violStop s) .stopChar ||| flag (violTransport s) .transport ||| flag (violLive s) .liveness

end Sys2Proof.Machine
end

