-- ==== Sys2Proof/Machine/Commands.lean ====
section
/-! DEFINITION. The five commands (R155 to R163) and the two paths of UPDATE (R138, R139). A command is an 8-byte write to
CMD, so each answers OKAY on the port whatever its result code (R64). -/

namespace Sys2Proof.Machine

/-- R156: NOP. -/
def execNop (s : State) : Host.Outcome State Fault Refusal := .next (okayWrite (setErr .ok s))

/-- R157: SYNC, refused with TSRANGE where TS is out of range. -/
def execSync (s : State) : Host.Outcome State Fault Refusal :=
  if s.cfg.nsPerS ≤ tsOf s then .next (okayWrite (reject .tsrange s))
  else .next (okayWrite (setErr .ok (latchTs s)))

/-- R138, R139, R160: the UPDATE takes the fault path. -/
def sampleFaulted (s : State) : Bool := decide (s.inputs.sfault = 1#1) || decide (s.cfg.nsPerS ≤ tsOf s)

/-- R138: the registers of a good UPDATE before the safety evaluation. -/
def goodCommitted (s : State) : State := livenessUpdate (clearFaults (commit (filter s) s))

/-- R138, R136: the good path. -/
def goodPath (s : State) : State :=
  setErr .ok (haltIf (goodMask (filter s).gx (filter s).gy (filter s).gz (goodCommitted s)) (goodCommitted s))

/-- R139: the counters of a faulted UPDATE before its conditions are evaluated. -/
def faultCounted (s : State) : State := livenessUpdate (countFault s)

/-- R139, R173: SAMPLEFAULT is reported over TSRANGE. -/
def faultCode (s : State) : ResultCode := if s.inputs.sfault = 1#1 then .samplefault else .tsrange

/-- R139: the fault path: the estimate is held. -/
def faultPath (s : State) : State :=
  setErr (faultCode s) (haltIf (faultMask (faultCounted s)) (faultCounted s))

/-- R159, R160: UPDATE, one control cycle, behind the admission checks in their order. -/
def execUpdate (s : State) : Host.Outcome State Fault Refusal :=
  if s.run = false then .next (okayWrite (reject .halted s))
  else if s.biasLocked = false then .next (okayWrite (reject .notcal s))
  else if s.tsValid = false then .next (okayWrite (reject .nots s))
  else if sampleFaulted s then .next (okayWrite (faultPath s))
  else .next (okayWrite (goodPath s))

/-- R162: LOCK. -/
def execLock (s : State) : Host.Outcome State Fault Refusal := .next (okayWrite (setErr .ok (lockBias s)))

/-- R163: ABORT. -/
def execAbort (s : State) : Host.Outcome State Fault Refusal :=
  .next (okayWrite (setErr .ok (halt (causeBit .abortCmd) s)))

/-- R155: the command of an opcode. -/
def execOpcode (op : Opcode) (s : State) : Host.Outcome State Fault Refusal :=
  match op with
  | .nop => execNop s
  | .sync => execSync s
  | .update => execUpdate s
  | .lock => execLock s
  | .abort => execAbort s

/-- R155, R87: `perform_command(v)`: an illegal word is Reject(ILLEGAL), answered OKAY. -/
def performCommand (v : Word) (s : State) : Host.Outcome State Fault Refusal :=
  match decodeCommand v with
  | .ok op => execOpcode op s
  | .error _ => .next (okayWrite (reject .illegal s))

end Sys2Proof.Machine
end

