-- ==== Sys2Proof/Machine/Port.lean ====
section
/-! DEFINITION. The two port transactions, RD and WR (R60 to R64, R67). -/

namespace Sys2Proof.Machine

/-- R63: the register a transaction reaches; none where the width is not 8, the offset not a multiple of 8, or the slot
the reserved one. -/
def target (off : Offset) (width : Nat) : Option Reg := if width = 8 then regAt off else none

/-- R61: RD. A read changes no register. -/
def execRd (off : Offset) (width : Nat) (s : State) : Host.Outcome State Fault Refusal :=
  match target off width with
  | none => .next (slverrRead s)
  | some r => .next (okayRead (readReg s r) s)

/-- R62, R63: a write to a register: refused on RO and on a locked RWL register, a command on CMD, else stored. -/
def writeReg (r : Reg) (v : Word) (s : State) : Host.Outcome State Fault Refusal :=
  match regAccess r with
  | .ro => .next (slverrWrite s)
  | .wo => performCommand v s
  | .rw => .next (okayWrite (storeReg r v s))
  | .rwl => if s.biasLocked then .next (slverrWrite s) else .next (okayWrite (storeReg r v s))

/-- R62: WR. -/
def execWr (off : Offset) (width : Nat) (data : Word) (s : State) : Host.Outcome State Fault Refusal :=
  match target off width with
  | none => .next (slverrWrite s)
  | some r => writeReg r data s

end Sys2Proof.Machine
end

