-- ==== Sys2Proof/Machine/Dispatch.lean ====
section
/-! DEFINITION. One arm per instruction of spec/opcode_table.json. -/

namespace Sys2Proof.Machine

def exec (i : Instr) (s : State) : Host.Outcome State Fault Refusal :=
  match i with
  | .rd off width => Sys2Proof.Machine.execRd off width s
  | .wr off width data => Sys2Proof.Machine.execWr off width data s
  | .nop => Sys2Proof.Machine.execNop s
  | .sync => Sys2Proof.Machine.execSync s
  | .update => Sys2Proof.Machine.execUpdate s
  | .lock => Sys2Proof.Machine.execLock s
  | .abort => Sys2Proof.Machine.execAbort s

end Sys2Proof.Machine
end

