-- ==== Sys2Proof/Machine/Events.lean ====
section
/-! DEFINITION. What one item of the inbox does: a port transaction, an `abort_async` event or an `rst` event (R72). -/

namespace Sys2Proof.Machine

/-- How the port answers a frame that is no instruction: an illegal command word is Reject(ILLEGAL) with OKAY (R87), a
transaction of no bytes is refused (R63; log 7). -/
def answerUndecoded (f : Frame) (s : State) : State :=
  match f with
  | .c _ => okayWrite (reject .illegal s)
  | .t sel _ _ => if sel.getLsbD 8 then slverrWrite s else slverrRead s

/-- One frame on the port: the decoded instruction runs. -/
def performFrame (f : Frame) (s : State) : Host.Outcome State Fault Refusal :=
  match decode f with
  | .ok i => exec i s
  | .error _ => .next (answerUndecoded f s)

/-- R143: the asynchronous abort. -/
def abortEvent (s : State) : State := halt (causeBit .abortAsync) s

/-- One event, performed as one atomic step (R68, R72). -/
def performEvent (e : Event) (s : State) : Host.Outcome State Fault Refusal :=
  match e with
  | .port f => performFrame f s
  | .abortAsync => .next (abortEvent s)
  | .rst => .next (resetBlock s)

/-- The state with the first item of the inbox taken out. -/
def popInbox (rest : List Event) (s : State) : State := { s with inbox := rest }

/-- The state with a frame put first on the port. -/
def offer (f : Frame) (s : State) : State := { s with inbox := .port f :: s.inbox }

end Sys2Proof.Machine
end

