-- ==== Sys2Proof/Machine/Step.lean ====
section
/-! DEFINITION. One step of the block: the next transaction or event, in the order the inbox gives (R72, log 5). -/

namespace Sys2Proof.Machine

/-- With nothing on the port and no event the block does nothing: it has no source of steps of its own (R72, R20). -/
def step (s : State) : Host.Outcome State Fault Refusal :=
  match s.inbox with
  | [] => .next s
  | e :: rest => performEvent e (popInbox rest s)

/-- The opcode-table word put first on the port: the host issues it as the next transaction (log 5). -/
def State.withFetchWord (s : State) (nbits w : Nat) : State := offer (tableFrame nbits w) s

end Sys2Proof.Machine
end

