-- ==== Sys2Proof/Machine/HostSide.lean ====
section
/-! DEFINITION. The host's side of the port, as far as the spec writes it out: the pseudo-instructions of its assembly
(R90, R91), the calibration procedure (R175, a host duty outside the block, R5) and the boot sequence (R204). No step of
the block calls any of it (log 14). -/

namespace Sys2Proof.Machine

/-- `<axis>` of R91. -/
inductive Axis where
  | ax | ay | az | gx | gy | gz
deriving DecidableEq, Repr

/-- The SAMPLE register of an axis (R91). -/
def sampleReg : Axis → Reg
  | .ax => .sampleAx
  | .ay => .sampleAy
  | .az => .sampleAz
  | .gx => .sampleGx
  | .gy => .sampleGy
  | .gz => .sampleGz

/-- The host assembly: RD and WR by register name (R90) and the pseudo-instructions (R91). A real `num / den` stands for
`<real>`. -/
inductive HostLine where
  | rd (r : Reg)
  | wr (r : Reg) (v : Word)
  | nop | sync | update | lock | abort
  | wrs (axis : Axis) (hi lo : BitVec 8)
  | wrv (axis : Axis) (v : Int)
  | wrf (r : Reg) (num : Int) (den : Nat)
  | wrt (ns : Nat)
  | wrc (ch : BitVec 8)
deriving DecidableEq, Repr

/-- `bits64(<real>)`: the binary64 nearest `num / den` (R91). -/
def ratioToF64 (num : Int) (den : Nat) : F64 :=
  pack (decide (num < 0)) (roundMag (num.natAbs * 2 ^ unitExp) den)

/-- An 8-byte write to a register by name (R90). -/
def writeLine (r : Reg) (v : Word) : Instr := .wr (regOffset r) 8 v

/-- R90, R91: each line is exactly one transaction. R91 gives WRV for -32768 to 32767 and WRT for 0 to 999,999,999 only:
expanding other numbers by the same formula is the model's choice (DESIGN CHOICE, log 15). -/
def expandLine : HostLine → Instr
  | .rd r => .rd (regOffset r) 8
  | .wr r v => writeLine r v
  | .nop => writeLine .cmd 0x0#64
  | .sync => writeLine .cmd 0x1#64
  | .update => writeLine .cmd 0x2#64
  | .lock => writeLine .cmd 0x3#64
  | .abort => writeLine .cmd 0x4#64
  | .wrs axis hi lo => writeLine (sampleReg axis) ((hi ++ lo).setWidth 64)
  | .wrv axis v => writeLine (sampleReg axis) ((BitVec.ofInt 16 v).setWidth 64)
  | .wrf r num den => writeLine r (ratioToF64 num den)
  | .wrt ns => writeLine .ts (BitVec.ofNat 64 ns)
  | .wrc ch => writeLine .cmdchar (0x100#64 ||| ch.setWidth 64)

/-- A host program on the port. -/
def hostProgram (lines : List HostLine) : List Event := lines.map fun l => .port (encode (expandLine l))

/-- One full 6-axis read (R175). -/
structure SixAxis where
  ax : BitVec 16
  ay : BitVec 16
  az : BitVec 16
  gx : BitVec 16
  gy : BitVec 16
  gz : BitVec 16
deriving DecidableEq, Repr

/-- One term of the running mean: `b +f (x /f f64(N_CAL))` (R175). -/
def meanStep (c : Config) (d : Nat) (b x : F64) : F64 := fadd (d + 1) b (fdiv d x (f64OfInt (c.nCal : Int)))

/-- R175: one iteration of the calibration loop. -/
def calibrateStep (c : Config) (d : Nat) (b : Bias) (x : SixAxis) : Bias where
  gx := meanStep c (d + 2) b.gx (scale c d (raw x.gx) c.gyroFsr)
  gy := meanStep c (d + 6) b.gy (scale c (d + 4) (raw x.gy) c.gyroFsr)
  gz := meanStep c (d + 10) b.gz (scale c (d + 8) (raw x.gz) c.gyroFsr)
  roll := meanStep c (d + 15) b.roll (incl c (d + 12) (raw x.ay) (raw x.az))
  pitch := meanStep c (d + 20) b.pitch (incl c (d + 17) (raw x.ax) (raw x.az))
  az := meanStep c (d + 24) b.az (scale c (d + 22) (raw x.az) c.accFsr)

/-- R175: the running means over the reads, from +0.0. -/
def calibrateFrom (c : Config) : Nat → Bias → List SixAxis → Bias
  | _, b, [] => b
  | d, b, x :: xs => calibrateFrom c (d + 26) (calibrateStep c d b x) xs

/-- R175: the biases of a list of reads (the procedure takes N_CAL of them). -/
def calibrate (c : Config) (reads : List SixAxis) : Bias := calibrateFrom c 0 {} reads

/-- R204 steps 2 to 4: load the biases, LOCK, write TS, SYNC. -/
def bootLines (b : Bias) (ts : Nat) : List HostLine :=
  [.wr .biasGx b.gx, .wr .biasGy b.gy, .wr .biasGz b.gz, .wr .biasRoll b.roll, .wr .biasPitch b.pitch, .wr .biasAz b.az,
    .lock, .wrt ts, .sync]

/-- R204 step 5: one control cycle of the host's loop: the samples, SFLAGS, TS, UPDATE, and the two reads. -/
def cycleLines (x : SixAxis) (faulted : Bool) (ts : Nat) : List HostLine :=
  [.wr .sampleAx (x.ax.setWidth 64), .wr .sampleAy (x.ay.setWidth 64), .wr .sampleAz (x.az.setWidth 64),
    .wr .sampleGx (x.gx.setWidth 64), .wr .sampleGy (x.gy.setWidth 64), .wr .sampleGz (x.gz.setWidth 64),
    .wr .sflags (if faulted then 1#64 else 0#64), .wrt ts, .update, .rd .status, .rd .err]

end Sys2Proof.Machine
end

