-- ==== Sys2Proof/Safety.lean ====
section
/-! DEFINITION. What counts as a legal build and a safe state, in the terms the statements use. -/

namespace Sys2Proof

/-- The builds that are a QAFS (I23) as far as R7 says: FAULT_HALT_COUNT is 1 to 255, a second has at least one
nanosecond and fits the 30-bit TS, the limits are numbers not below zero, and ONE_MINUS_ALPHA is `1.0 -f ALPHA` (log 10). -/
def Config.Legal (c : Config) : Prop :=
  c.faultHaltCount ≠ 0#8 ∧ 0 < c.nsPerS ∧ c.nsPerS < 2 ^ 30 ∧ Machine.fle 0#64 c.rollLimit = true
    ∧ Machine.fle 0#64 c.pitchLimit = true ∧ c.oneMinusAlpha = Machine.fsub 0 0x3FF0000000000000#64 c.alpha

end Sys2Proof

namespace Sys2Proof.Machine

/-- The next state of an outcome, if it is one. -/
def nextOf (o : Host.Outcome State Fault Refusal) : Option State :=
  match o with
  | .next t => some t
  | .fault _ => none
  | .refused _ => none

/-- No `rst` is to come (R202). -/
def resetFree (l : List Event) : Bool := l.all fun e => decide (e ≠ .rst)

/-- While the block is RUNNING, the estimate is within the limits and no counter has reached its halt threshold
(R131, R132, R135, R139). -/
def RunningIsSafe (s : State) : Prop :=
  s.run = true →
    violRoll s = false ∧ violPitch s = false ∧ violTransport s = false ∧ violLive s = false

/-- HALT_CAUSE is nonzero exactly in HALTED (R28, R141). -/
def CauseMatchesRun (s : State) : Prop := s.haltCause = 0#10 ↔ s.run = true

/-- PREV_TS is below one second (R41), and is 0 until a timestamp was accepted (R26, R41). -/
def TimestampInRange (s : State) : Prop :=
  s.prevTs.toNat < s.cfg.nsPerS ∧ (s.tsValid = false → s.prevTs = 0#30)

/-- DT_NS is at most one second (R42). -/
def DeltaInRange (s : State) : Prop := s.est.dtNs.toNat ≤ s.cfg.nsPerS

/-- Until calibration is locked and a timestamp accepted, no cycle has run: the estimate, the telemetry and the counters
hold their reset values (R38, R159, R203). -/
def NothingBeforeBoot (s : State) : Prop :=
  (s.biasLocked = false ∨ s.tsValid = false) →
    s.est = {} ∧ s.faultCnt = 0#8 ∧ s.livePrev = 0#32 ∧ s.stallCnt = 0#32

/-- ERR holds an assigned code (R170, I16). -/
def ErrAssigned (s : State) : Prop := s.err.toNat ≤ 6

/-- The invariant of the block: in every reachable state of a legal build, and kept by every step. -/
structure BlockInv (s : State) : Prop where
  legal : s.cfg.Legal
  running : RunningIsSafe s
  cause : CauseMatchesRun s
  prevTs : TimestampInRange s
  delta : DeltaInRange s
  boot : NothingBeforeBoot s
  err : ErrAssigned s

/-- The frame of a command: the build, the inputs, the biases and what the host does next are as before. -/
def SameOutside (s t : State) : Prop :=
  t.cfg = s.cfg ∧ t.inputs = s.inputs ∧ t.bias = s.bias ∧ t.inbox = s.inbox

/-- The same datum, where one NaN is as good as another (R11: no rule distinguishes them). -/
def SameDatum (a b : F64) : Prop := a = b ∨ (isNaN a = true ∧ isNaN b = true)

/-- `x` is the ratio `num / den` of units 2^-1074 rounded to nearest, ties to even (R11, D2): no NaN, of the ratio's sign
where the ratio is not 0, infinite exactly from half a last place above the largest finite value on, and otherwise no
finite magnitude is nearer and one as near leaves `x` the even pattern. -/
structure IsRounding (x : F64) (num : Int) (den : Nat) : Prop where
  number : isNaN x = false
  negative : num < 0 → signOf x = true
  positive : 0 < num → signOf x = false
  overflow : isInf x = true ↔ (2 ^ 54 - 1) * 2 ^ 2044 * den ≤ num.natAbs
  nearest : isFinite x = true → ∀ m, m < infMag →
    ((unitsOf x * den : Nat) - (num.natAbs : Int)).natAbs ≤ ((magUnits m * den : Nat) - (num.natAbs : Int)).natAbs
  even : isFinite x = true → ∀ m, m < infMag → m ≠ magOf x →
    ((unitsOf x * den : Nat) - (num.natAbs : Int)).natAbs = ((magUnits m * den : Nat) - (num.natAbs : Int)).natAbs →
      magOf x % 2 = 0

/-- What the operators give on NaN and infinite operands and on zero divisors, IEEE 754's rules (R104, R115, R116, G3, G7;
log 11). -/
structure SpecialResults (d : Nat) (a b : F64) : Prop where
  nan : isNaN a = true ∨ isNaN b = true →
    isNaN (fadd d a b) = true ∧ isNaN (fsub d a b) = true ∧ isNaN (fmul d a b) = true ∧ isNaN (fdiv d a b) = true
  infPlusInf : isInf a = true → isInf b = true →
    (signOf a = signOf b → fadd d a b = a ∧ isNaN (fsub d a b) = true) ∧
    (signOf a ≠ signOf b → isNaN (fadd d a b) = true ∧ fsub d a b = a)
  infPlusFinite : isInf a = true → isFinite b = true →
    fadd d a b = a ∧ fadd d b a = a ∧ fsub d a b = a ∧ fsub d b a = negf a
  infTimesZero : isInf a = true → isZero b = true → isNaN (fmul d a b) = true ∧ isNaN (fmul d b a) = true
  infTimes : isInf a = true → isNaN b = false → isZero b = false →
    (isInf (fmul d a b) = true ∧ signOf (fmul d a b) = (signOf a != signOf b)) ∧
    (isInf (fmul d b a) = true ∧ signOf (fmul d b a) = (signOf a != signOf b))
  infOverInf : isInf a = true → isInf b = true → isNaN (fdiv d a b) = true
  infOverFinite : isInf a = true → isFinite b = true →
    isInf (fdiv d a b) = true ∧ signOf (fdiv d a b) = (signOf a != signOf b)
  finiteOverInf : isFinite a = true → isInf b = true →
    isZero (fdiv d a b) = true ∧ signOf (fdiv d a b) = (signOf a != signOf b)
  zeroOverZero : isZero a = true → isZero b = true → isNaN (fdiv d a b) = true
  finiteOverZero : isFinite a = true → isZero a = false → isZero b = true →
    isInf (fdiv d a b) = true ∧ signOf (fdiv d a b) = (signOf a != signOf b)

/-- The UPDATE is admitted (R159). -/
def Admitted (s : State) : Prop := s.run = true ∧ s.biasLocked = true ∧ s.tsValid = true

/-- The sample is trusted: no transport fault and a timestamp in range (R138). -/
def SampleGood (s : State) : Prop := s.inputs.sfault = 0#1 ∧ s.inputs.ts.toNat < s.cfg.nsPerS

/-- The conditions a good UPDATE from `s` to `t` evaluates, by the cause each is recorded as (R136, R171): the gyro rates
of the sample, the estimate and the counters after the update. -/
def goodCondition (s t : State) : HaltCause → Bool
  | .stopChar => violStop s
  | .roll => violRoll t
  | .pitch => violPitch t
  | .gyroX => violGyro s.cfg (gyroRate s.cfg 0 s.inputs.sampleGx)
  | .gyroY => violGyro s.cfg (gyroRate s.cfg 0 s.inputs.sampleGy)
  | .gyroZ => violGyro s.cfg (gyroRate s.cfg 0 s.inputs.sampleGz)
  | .liveness => violLive t
  | .abortCmd => false
  | .abortAsync => false
  | .transport => false

/-- The conditions a faulted UPDATE from `s` to `t` evaluates (R139). -/
def faultCondition (s t : State) : HaltCause → Bool
  | .stopChar => violStop s
  | .transport => violTransport t
  | .liveness => violLive t
  | .abortCmd => false
  | .abortAsync => false
  | .roll => false
  | .pitch => false
  | .gyroX => false
  | .gyroY => false
  | .gyroZ => false

/-- The bits of a register that are in a named field (R22, 10_state.md); the others are reserved. -/
def fieldMask : Reg → Word
  | .cmd => 0x0#64
  | .status => 0x7#64
  | .err => 0xFF#64
  | .haltCause => 0x3FF#64
  | .sampleAx | .sampleAy | .sampleAz | .sampleGx | .sampleGy | .sampleGz => 0xFFFF#64
  | .ts | .prevTs | .dtNs => 0x3FFFFFFF#64
  | .sflags => 0x1#64
  | .cmdchar => 0x1FF#64
  | .faultCnt => 0xFF#64
  | .live | .livePrev | .stallCnt => 0xFFFFFFFF#64
  | .biasGx | .biasGy | .biasGz | .biasRoll | .biasPitch | .biasAz => 0xFFFFFFFFFFFFFFFF#64
  | .roll | .pitch | .accRoll | .accPitch | .gyroRollRate | .gyroPitchRate => 0xFFFFFFFFFFFFFFFF#64

/-- The next item of the inbox runs this instruction. -/
def NextRuns (s : State) (i : Instr) : Prop := ∃ f rest, s.inbox = .port f :: rest ∧ decode f = .ok i

/-- The next item of the inbox performs this command: as a command word, or as an 8-byte write of it to CMD (R91). -/
def NextPerforms (s : State) (op : Opcode) : Prop :=
  NextRuns s op.instr ∨ NextRuns s (.wr (regOffset .cmd) 8 (commandWord op))

end Sys2Proof.Machine
end

