-- ==== Sys2Proof/Certificates/Slice0/Obligations.lean ====
section
/-! DEFINITION. The statements for the provers, in the order of OBLIGATIONS.json. -/

open Sys2Proof Sys2Proof.Machine

/-! ## Encoding -/

/-- R81, R83: decoding what the encoder writes gives the instruction back, for every well-formed instruction and every
operand value. -/
def Obligations.DecodeOfEncode : Prop :=
  ∀ i : Instr, i.WellFormed = true → decode (encode i) = .ok i

/-- R81, R82: no two frames mean one instruction, but for the DATA a read ignores: a frame that decodes is the encoding of
what it decodes to, which is well formed. -/
def Obligations.EncodeOfDecode : Prop :=
  ∀ (f : Frame) (i : Instr), decode f = .ok i →
    i.WellFormed = true ∧
      (encode i = f ∨ ∃ sel width data, f = .t sel width data ∧ sel.getLsbD 8 = false ∧ encode i = .t sel width 0#64)

/-- R82, R89: every 64-bit word is one of the five command words or is illegal, and it is illegal exactly where bits 63 to
8 are not zero or the opcode is 0x05 or more. -/
def Obligations.CommandWordDecoderIsTotal : Prop :=
  ∀ w : Word,
    ((∃ op, decodeCommand w = .ok op ∧ w = commandWord op) ∨
      ((∃ e, decodeCommand w = .error e) ∧ ∀ op, w ≠ commandWord op)) ∧
    ((∃ e, decodeCommand w = .error e) ↔ (w.extractLsb' 8 56 ≠ 0#56 ∨ 0x05 ≤ (w.extractLsb' 0 8).toNat))

/-- A few frames written out from R81 and R83 decode to what they stand for: a sanity check. -/
def Obligations.WrittenOutFramesDecode : Prop :=
  decode (.t 0b000001000#9 8 0#64) = .ok (.rd 0x08#8 8) ∧
  decode (.t 0b101110000#9 8 0x3FF0000000000000#64) = .ok (.wr 0x70#8 8 0x3FF0000000000000#64) ∧
  decode (.c 0x0000000000000000#64) = .ok .nop ∧
  decode (.c 0x0000000000000001#64) = .ok .sync ∧
  decode (.c 0x0000000000000002#64) = .ok .update ∧
  decode (.c 0x0000000000000003#64) = .ok .lock ∧
  decode (.c 0x0000000000000004#64) = .ok .abort

/-- R90, R91: every line of the host assembly is exactly one transaction, to the register and with the data that R91
gives, WRF's real number rounded to the nearest binary64; and the five command lines run as the commands of their
names. R91 has WRV for -32768 to 32767 and WRT for 0 to 999,999,999 only: that a line with another number is expanded by
the same formula is the model's choice (log 15). -/
def Obligations.HostLinesAreSingleTransactions : Prop :=
  (∀ l : HostLine, decode (encode (expandLine l)) = .ok (expandLine l)) ∧
  (∀ (r : Reg) (v : Word), expandLine (.rd r) = .rd (regOffset r) 8 ∧ expandLine (.wr r v) = .wr (regOffset r) 8 v) ∧
  (∀ p ∈ [(HostLine.nop, 0x0#64), (.sync, 0x1#64), (.update, 0x2#64), (.lock, 0x3#64), (.abort, 0x4#64)],
    expandLine p.1 = .wr 0x00#8 8 p.2) ∧
  (∀ p ∈ [(Axis.ax, 0x20#8), (.ay, 0x28#8), (.az, 0x30#8), (.gx, 0x38#8), (.gy, 0x40#8), (.gz, 0x48#8)],
    (∀ hi lo : BitVec 8, expandLine (.wrs p.1 hi lo) = .wr p.2 8 (BitVec.ofNat 64 (hi.toNat * 256 + lo.toNat))) ∧
    ∀ v : Int, expandLine (.wrv p.1 v) = .wr p.2 8 (BitVec.ofInt 64 (v % 65536))) ∧
  (∀ (r : Reg) (num : Int) (den : Nat), 0 < den →
    ∃ x, expandLine (.wrf r num den) = .wr (regOffset r) 8 x ∧ IsRounding x (num * 2 ^ unitExp) den ∧
      (num = 0 → x = 0#64)) ∧
  (∀ ns : Nat, expandLine (.wrt ns) = .wr 0x50#8 8 (BitVec.ofNat 64 ns)) ∧
  (∀ ch : BitVec 8, expandLine (.wrc ch) = .wr 0x60#8 8 (BitVec.ofNat 64 (0x100 + ch.toNat))) ∧
  ∀ s : State,
    exec (expandLine .nop) s = exec .nop s ∧ exec (expandLine .sync) s = exec .sync s ∧
    exec (expandLine .update) s = exec .update s ∧ exec (expandLine .lock) s = exec .lock s ∧
    exec (expandLine .abort) s = exec .abort s

/-! ## The step -/

/-- A step takes the next item of the inbox; when its frame decodes to an instruction, the step is exec of that
instruction on the state with the item taken out. That the items come from a list is the model's choice (log 5). -/
def Obligations.StepRunsDecodedInstruction : Prop :=
  ∀ (s : State) (f : Frame) (rest : List Event) (i : Instr), s.inbox = .port f :: rest → decode f = .ok i →
    step s = exec i { s with inbox := rest }

/-- An opcode-table word put on the port is what the very next step runs, and taking it out restores the state; the
layout of the word is the model's choice (log 5, log 7). -/
def Obligations.TableWordRunsNext : Prop :=
  ∀ (s : State) (nbits w : Nat) (i : Instr), decodeTableWord nbits w = some i →
    step (s.withFetchWord nbits w) = exec i s

/-- R72, R64: nothing ever stops the block: from every state a step gives a next state. -/
def Obligations.EveryStepHasANextState : Prop :=
  ∀ s : State, ∃ t, step s = .next t

/-- With nothing on the port and no event, a step changes nothing: the model's choice (log 5). -/
def Obligations.IdleStepChangesNothing : Prop :=
  ∀ s : State, s.inbox = [] → step s = .next s

/-! ## The port -/

/-- R60, R21: the register map is R21's table: each register has the offset and the access class of its row, is at that
offset and nowhere else, and the offsets with no register are those not a multiple of 8 and 0xF8. -/
def Obligations.RegisterMapIsOneToOne : Prop :=
  (∀ r : Reg, (r, regOffset r, regAccess r) ∈
    [(Reg.cmd, 0x00#8, Access.wo), (.status, 0x08#8, .ro), (.err, 0x10#8, .ro), (.haltCause, 0x18#8, .ro),
      (.sampleAx, 0x20#8, .rw), (.sampleAy, 0x28#8, .rw), (.sampleAz, 0x30#8, .rw), (.sampleGx, 0x38#8, .rw),
      (.sampleGy, 0x40#8, .rw), (.sampleGz, 0x48#8, .rw), (.ts, 0x50#8, .rw), (.sflags, 0x58#8, .rw),
      (.cmdchar, 0x60#8, .rw), (.live, 0x68#8, .rw), (.biasGx, 0x70#8, .rwl), (.biasGy, 0x78#8, .rwl),
      (.biasGz, 0x80#8, .rwl), (.biasRoll, 0x88#8, .rwl), (.biasPitch, 0x90#8, .rwl), (.biasAz, 0x98#8, .rwl),
      (.roll, 0xA0#8, .ro), (.pitch, 0xA8#8, .ro), (.accRoll, 0xB0#8, .ro), (.accPitch, 0xB8#8, .ro),
      (.gyroRollRate, 0xC0#8, .ro), (.gyroPitchRate, 0xC8#8, .ro), (.prevTs, 0xD0#8, .ro), (.dtNs, 0xD8#8, .ro),
      (.faultCnt, 0xE0#8, .ro), (.livePrev, 0xE8#8, .ro), (.stallCnt, 0xF0#8, .ro)]) ∧
  (∀ (off : Offset) (r : Reg), regAt off = some r ↔ off = regOffset r) ∧
  ∀ off : Offset, regAt off = none ↔ (off.toNat % 8 ≠ 0 ∨ off = 0xF8#8)

/-- R61, R73: an accepted read returns OKAY and the register's current value with every reserved bit 0, and changes no
state; for each of the 31 offsets of R21, the value it returns: 0 for CMD, and for every other register the field of the
state that R21's row names, widened with zeros. -/
def Obligations.ReadReturnsRegister : Prop :=
  (∀ (r : Reg) (s : State),
    exec (.rd (regOffset r) 8) s = .next { s with resp := some ⟨.okay, some (readReg s r)⟩ } ∧ readReg s .cmd = 0#64) ∧
  ∀ s : State, ∀ p ∈
    [((0x00#8 : Offset), 0#64), (0x08#8, BitVec.ofNat 64 (s.run.toNat + 2 * s.biasLocked.toNat + 4 * s.tsValid.toNat)),
      (0x10#8, s.err.setWidth 64), (0x18#8, s.haltCause.setWidth 64), (0x20#8, s.inputs.sampleAx.setWidth 64),
      (0x28#8, s.inputs.sampleAy.setWidth 64), (0x30#8, s.inputs.sampleAz.setWidth 64),
      (0x38#8, s.inputs.sampleGx.setWidth 64), (0x40#8, s.inputs.sampleGy.setWidth 64),
      (0x48#8, s.inputs.sampleGz.setWidth 64), (0x50#8, s.inputs.ts.setWidth 64), (0x58#8, s.inputs.sfault.setWidth 64),
      (0x60#8, s.inputs.cmdchar.setWidth 64), (0x68#8, s.inputs.live.setWidth 64), (0x70#8, s.bias.gx),
      (0x78#8, s.bias.gy), (0x80#8, s.bias.gz), (0x88#8, s.bias.roll), (0x90#8, s.bias.pitch), (0x98#8, s.bias.az),
      (0xA0#8, s.est.roll), (0xA8#8, s.est.pitch), (0xB0#8, s.est.accRoll), (0xB8#8, s.est.accPitch),
      (0xC0#8, s.est.gyroRollRate), (0xC8#8, s.est.gyroPitchRate), (0xD0#8, s.prevTs.setWidth 64),
      (0xD8#8, s.est.dtNs.setWidth 64), (0xE0#8, s.faultCnt.setWidth 64), (0xE8#8, s.livePrev.setWidth 64),
      (0xF0#8, s.stallCnt.setWidth 64)],
    exec (.rd p.1 8) s = .next { s with resp := some ⟨.okay, some p.2⟩ }

/-- R63: a transaction is refused with SLVERR, and changes no state, when the offset is not a multiple of 8 or is 0xF8,
when the width is not 8 bytes, when it writes an RO register, and when it writes an RWL register while the bias is locked;
a refused read returns the data 0. Nothing else is refused. -/
def Obligations.RefusedExactlyByTheListedConditions : Prop :=
  (∀ (off : Offset) (width : Nat) (s : State),
    (off.toNat % 8 ≠ 0 ∨ off = 0xF8#8 ∨ width ≠ 8 →
      exec (.rd off width) s = .next { s with resp := some ⟨.slverr, some 0#64⟩ }) ∧
    (¬ (off.toNat % 8 ≠ 0 ∨ off = 0xF8#8 ∨ width ≠ 8) →
      ∃ t v, exec (.rd off width) s = .next t ∧ t.resp = some ⟨.okay, some v⟩)) ∧
  ∀ (off : Offset) (width : Nat) (v : Word) (s : State),
    ((off.toNat % 8 ≠ 0 ∨ off = 0xF8#8 ∨ width ≠ 8 ∨
        ∃ r, regAt off = some r ∧ (regAccess r = .ro ∨ (regAccess r = .rwl ∧ s.biasLocked = true))) →
      exec (.wr off width v) s = .next { s with resp := some ⟨.slverr, none⟩ }) ∧
    (¬ (off.toNat % 8 ≠ 0 ∨ off = 0xF8#8 ∨ width ≠ 8 ∨
        ∃ r, regAt off = some r ∧ (regAccess r = .ro ∨ (regAccess r = .rwl ∧ s.biasLocked = true))) →
      ∃ t, exec (.wr off width v) s = .next t ∧ t.resp = some ⟨.okay, none⟩)

/-- R62, R22: an accepted write of an RW register, or of an RWL register while the bias is not locked, answers OKAY and
stores the value with every reserved bit cleared; every other register reads as before, and nothing else of the state
but the inputs and the biases moves. -/
def Obligations.WriteStoresAndFrames : Prop :=
  ∀ (r : Reg) (v : Word) (s : State), regAccess r = .rw ∨ (regAccess r = .rwl ∧ s.biasLocked = false) →
    ∃ t, exec (.wr (regOffset r) 8 v) s = .next t ∧ readReg t r = v &&& fieldMask r ∧
      (∀ q, q ≠ r → readReg t q = readReg s q) ∧
      t = { s with inputs := t.inputs, bias := t.bias, resp := some ⟨.okay, none⟩ }

/-- R62, R155: a write to CMD performs the command its word selects, and stores nothing else. -/
def Obligations.CmdWritePerformsCommand : Prop :=
  ∀ (op : Opcode) (s : State), exec (.wr (regOffset .cmd) 8 (commandWord op)) s = exec op.instr s

/-- R87: an illegal word (an opcode in 0x05 to 0xFF, or any bit of 63 to 8 set) makes ERR 0x01 and changes nothing else,
the port answers OKAY, and the block is not halted by it; the same as a frame on the port. -/
def Obligations.IllegalWordOnlySetsErr : Prop :=
  ∀ (w : Word) (s : State), (0x05 ≤ (w.extractLsb' 0 8).toNat ∨ w.extractLsb' 8 56 ≠ 0#56) →
    exec (.wr (regOffset .cmd) 8 w) s = .next { s with err := 0x01#8, resp := some ⟨.okay, none⟩ } ∧
    performFrame (.c w) s = .next { s with err := 0x01#8, resp := some ⟨.okay, none⟩ }

/-- R22: in every register the bits outside the named fields read as 0. -/
def Obligations.ReservedBitsReadZero : Prop :=
  ∀ (r : Reg) (s : State), readReg s r &&& ~~~(fieldMask r) = 0#64

/-- R24 to R28, R31: STATUS shows RUN, BIAS_LOCKED and TS_VALID at bits 0, 1 and 2 and zeros above, ERR its code and
HALT_CAUSE its ten bits with zeros above, and the output `halt_o` is NOT STATUS.RUN. -/
def Obligations.StatusBitsAndHaltOutput : Prop :=
  ∀ s : State,
    (readReg s .status).getLsbD 0 = s.run ∧ (readReg s .status).getLsbD 1 = s.biasLocked ∧
    (readReg s .status).getLsbD 2 = s.tsValid ∧ (∀ i, 3 ≤ i → (readReg s .status).getLsbD i = false) ∧
    (readReg s .err).toNat = s.err.toNat ∧ (∀ i, (readReg s .haltCause).getLsbD i = s.haltCause.getLsbD i) ∧
    s.haltO = !(readReg s .status).getLsbD 0

/-- R69: reads, register writes, NOP, LOCK, SYNC with an unchanged TS, and ABORT are idempotent: doing one again leaves
what it left. UPDATE, and a write to CMD, are not in the list. -/
def Obligations.IdempotentTransactions : Prop :=
  ∀ (i : Instr) (s t : State), i ≠ .update → (∀ width v, i ≠ .wr (regOffset .cmd) width v) →
    exec i s = .next t → exec i t = .next t

/-! ## The commands -/

/-- R156: NOP, the word 0, writes ERR with OK and nothing else, in every state. -/
def Obligations.NopClearsErrOnly : Prop :=
  decode (.c 0x0000000000000000#64) = .ok .nop ∧
  ∀ s : State, exec .nop s = .next { s with err := 0x00#8, resp := some ⟨.okay, none⟩ }

/-- R157: SYNC latches an in-range TS into PREV_TS, sets TS_VALID and ERR = OK; an out-of-range TS is rejected with
TSRANGE and no other change. Both in every state. -/
def Obligations.SyncLatchesTimestamp : Prop :=
  ∀ s : State,
    (s.inputs.ts.toNat < s.cfg.nsPerS →
      exec .sync s =
        .next { s with prevTs := s.inputs.ts, tsValid := true, err := 0x00#8, resp := some ⟨.okay, none⟩ }) ∧
    (s.cfg.nsPerS ≤ s.inputs.ts.toNat →
      exec .sync s = .next { s with err := 0x05#8, resp := some ⟨.okay, none⟩ })

/-- R158: a repeated SYNC is idempotent for an unchanged TS, SYNC never clears TS_VALID, and a rejected SYNC leaves the
earlier PREV_TS and TS_VALID. -/
def Obligations.SyncRepeatsAndNeverClears : Prop :=
  ∀ s t : State, exec .sync s = .next t →
    exec .sync t = .next t ∧ (s.tsValid = true → t.tsValid = true) ∧
    (s.cfg.nsPerS ≤ s.inputs.ts.toNat → t.prevTs = s.prevTs ∧ t.tsValid = s.tsValid)

/-- R162: LOCK sets BIAS_LOCKED and ERR = OK, in every state. -/
def Obligations.LockSetsBiasLocked : Prop :=
  ∀ s : State, exec .lock s = .next { s with biasLocked := true, err := 0x00#8, resp := some ⟨.okay, none⟩ }

/-- R163: ABORT in RUNNING clears RUN and records ABORT_CMD alone; in HALTED it changes only ERR. Both end with OK. -/
def Obligations.AbortHaltsOnce : Prop :=
  ∀ s : State,
    (s.run = true →
      exec .abort s =
        .next { s with run := false, haltCause := 0x001#10, err := 0x00#8, resp := some ⟨.okay, none⟩ }) ∧
    (s.run = false → exec .abort s = .next { s with err := 0x00#8, resp := some ⟨.okay, none⟩ })

/-- R159: the admission checks of UPDATE in their order; the first that fails ends it with its code and no other change. -/
def Obligations.UpdateAdmissionOrder : Prop :=
  ∀ s : State,
    (s.run = false → exec .update s = .next { s with err := 0x02#8, resp := some ⟨.okay, none⟩ }) ∧
    (s.run = true → s.biasLocked = false →
      exec .update s = .next { s with err := 0x03#8, resp := some ⟨.okay, none⟩ }) ∧
    (s.run = true → s.biasLocked = true → s.tsValid = false →
      exec .update s = .next { s with err := 0x04#8, resp := some ⟨.okay, none⟩ })

/-- R100 to R105, R110 to R118, R138: an admitted UPDATE with a good sample completes and commits the filter's values,
written out from the registers: the delta is TS less PREV_TS, plus a second where that is not positive; the accelerometer
angles, the de-biased rates (roll from gyro y, pitch from gyro x), and the estimate by the build's recurrence on the
previous one. It clears FAULT_CNT, moves PREV_TS to TS and ends with ERR = OK. A NaN is the same datum as any other NaN,
whichever free index the operators have (`d`). -/
def Obligations.GoodUpdateCommitsTheFilter : Prop :=
  ∀ s : State, Admitted s → SampleGood s →
    let delta : Int :=
      if (s.inputs.ts.toNat : Int) - s.prevTs.toNat ≤ 0 then (s.inputs.ts.toNat : Int) - s.prevTs.toNat + s.cfg.nsPerS
      else (s.inputs.ts.toNat : Int) - s.prevTs.toNat
    ∃ t, exec .update s = .next t ∧
      (∀ d,
        let seconds : F64 := fdiv d (f64OfInt delta) (f64OfInt s.cfg.nsPerS)
        let rate : BitVec 16 → F64 := fun w => fdiv d (fmul d (f64OfInt (raw w)) s.cfg.gyroFsr) s.cfg.halfRange
        let angle : BitVec 16 → F64 := fun w =>
          fdiv d
            (fmul d (atan2Of s.cfg d (f64OfInt (raw w)) (f64OfInt (-raw s.inputs.sampleAz))) s.cfg.degNum) s.cfg.pi
        SameDatum t.est.accRoll (fadd d (negf s.bias.roll) (angle s.inputs.sampleAy)) ∧
        SameDatum t.est.accPitch (fadd d (negf s.bias.pitch) (angle s.inputs.sampleAx)) ∧
        SameDatum t.est.gyroRollRate (fsub d (rate s.inputs.sampleGy) s.bias.gy) ∧
        SameDatum t.est.gyroPitchRate (fsub d (rate s.inputs.sampleGx) s.bias.gx) ∧
        (s.cfg.fusion = .multiplicative →
          SameDatum t.est.roll
            (fadd d (fmul d t.est.accRoll s.cfg.alpha)
              (fmul d s.cfg.oneMinusAlpha (fmul d (fmul d t.est.gyroRollRate seconds) s.est.roll))) ∧
          SameDatum t.est.pitch
            (fadd d (fmul d t.est.accPitch s.cfg.alpha)
              (fmul d s.cfg.oneMinusAlpha (fmul d (fmul d t.est.gyroPitchRate seconds) s.est.pitch)))) ∧
        (s.cfg.fusion = .additive →
          SameDatum t.est.roll
            (fadd d (fmul d t.est.accRoll s.cfg.alpha)
              (fmul d s.cfg.oneMinusAlpha (fadd d s.est.roll (fmul d t.est.gyroRollRate seconds)))) ∧
          SameDatum t.est.pitch
            (fadd d (fmul d t.est.accPitch s.cfg.alpha)
              (fmul d s.cfg.oneMinusAlpha (fadd d s.est.pitch (fmul d t.est.gyroPitchRate seconds)))))) ∧
      t.est.dtNs = BitVec.ofInt 30 delta ∧ t.prevTs = s.inputs.ts ∧ t.faultCnt = 0#8 ∧ t.err = 0x00#8 ∧
      t.resp = some ⟨.okay, none⟩ ∧ SameOutside s t ∧ t.biasLocked = s.biasLocked ∧ t.tsValid = s.tsValid

/-- R131 to R136, R141, R145, R28, R171: a good UPDATE evaluates every condition on what it has just written; it halts
exactly when one is true, HALT_CAUSE then has exactly the bits of the true ones, each at R28's position (2 the stop
character, 3 roll, 4 pitch, 5 to 7 the gyro rates x, y, z, 9 liveness), and otherwise RUN and HALT_CAUSE stay. -/
def Obligations.GoodUpdateHaltsOnEveryCondition : Prop :=
  ∀ s : State, Admitted s → SampleGood s →
    let rate : BitVec 16 → F64 := fun w => fdiv 0 (fmul 0 (f64OfInt (raw w)) s.cfg.gyroFsr) s.cfg.halfRange
    ∃ t, exec .update s = .next t ∧
      (t.run = false ↔ ∃ c, goodCondition s t c = true) ∧
      (t.run = false → ∀ c, t.haltCause.getLsbD (causePos c) = goodCondition s t c) ∧
      (t.run = false →
        t.haltCause.getLsbD 0 = false ∧ t.haltCause.getLsbD 1 = false ∧
        t.haltCause.getLsbD 2 = decide (s.inputs.cmdchar = 1#1 ++ s.cfg.stopByte) ∧
        t.haltCause.getLsbD 3 = !fle (fabs t.est.roll) s.cfg.rollLimit ∧
        t.haltCause.getLsbD 4 = !fle (fabs t.est.pitch) s.cfg.pitchLimit ∧
        t.haltCause.getLsbD 5 = !fle (fabs (rate s.inputs.sampleGx)) s.cfg.gyroLimit ∧
        t.haltCause.getLsbD 6 = !fle (fabs (rate s.inputs.sampleGy)) s.cfg.gyroLimit ∧
        t.haltCause.getLsbD 7 = !fle (fabs (rate s.inputs.sampleGz)) s.cfg.gyroLimit ∧
        t.haltCause.getLsbD 8 = false ∧
        t.haltCause.getLsbD 9 =
          decide (0 < s.cfg.livenessTimeout.toNat ∧ s.cfg.livenessTimeout.toNat ≤ t.stallCnt.toNat)) ∧
      (t.run = true → t.haltCause = s.haltCause)

/-- R139, R170, R173: an admitted UPDATE with a transport fault or an out-of-range TS holds the estimate, the telemetry,
PREV_TS and DT_NS, counts the fault (saturating at 255), halts exactly on the stop, transport and liveness conditions
(bits 2, 8 and 9 of HALT_CAUSE, no other), and reports SAMPLEFAULT over TSRANGE. -/
def Obligations.FaultedUpdateHoldsTheEstimate : Prop :=
  ∀ s : State, Admitted s → (s.inputs.sfault = 1#1 ∨ s.cfg.nsPerS ≤ s.inputs.ts.toNat) →
    ∃ t, exec .update s = .next t ∧ t.est = s.est ∧ t.prevTs = s.prevTs ∧ t.draws = s.draws ∧
      t.faultCnt.toNat = min (s.faultCnt.toNat + 1) 255 ∧
      (s.inputs.sfault = 1#1 → t.err = 0x06#8) ∧ (s.inputs.sfault = 0#1 → t.err = 0x05#8) ∧
      (t.run = false ↔ ∃ c, faultCondition s t c = true) ∧
      (t.run = false → ∀ c, t.haltCause.getLsbD (causePos c) = faultCondition s t c) ∧
      (t.run = false →
        t.haltCause &&& 0x0FB#10 = 0#10 ∧
        t.haltCause.getLsbD 2 = decide (s.inputs.cmdchar = 1#1 ++ s.cfg.stopByte) ∧
        t.haltCause.getLsbD 8 = decide (s.cfg.faultHaltCount.toNat ≤ t.faultCnt.toNat) ∧
        t.haltCause.getLsbD 9 =
          decide (0 < s.cfg.livenessTimeout.toNat ∧ s.cfg.livenessTimeout.toNat ≤ t.stallCnt.toNat)) ∧
      (t.run = true → t.haltCause = s.haltCause) ∧
      t.resp = some ⟨.okay, none⟩ ∧ SameOutside s t ∧ t.biasLocked = s.biasLocked ∧ t.tsValid = s.tsValid

/-- R135: every admitted UPDATE, good or faulted, sets LIVE_PREV to LIVE and STALL_CNT to one more, saturating, when LIVE
is unchanged and to 0 when it is not; it halts with the LIVENESS bit when the timeout is enabled and the new STALL_CNT has
reached it, and a halt of it has no LIVENESS bit otherwise. -/
def Obligations.UpdateCountsLiveness : Prop :=
  ∀ s : State, Admitted s →
    ∃ t, exec .update s = .next t ∧ t.livePrev = s.inputs.live ∧
      (s.inputs.live = s.livePrev → t.stallCnt.toNat = min (s.stallCnt.toNat + 1) (2 ^ 32 - 1)) ∧
      (s.inputs.live ≠ s.livePrev → t.stallCnt = 0#32) ∧
      (0 < s.cfg.livenessTimeout.toNat ∧ s.cfg.livenessTimeout.toNat ≤ t.stallCnt.toNat →
        t.run = false ∧ t.haltCause.getLsbD 9 = true) ∧
      (¬ (0 < s.cfg.livenessTimeout.toNat ∧ s.cfg.livenessTimeout.toNat ≤ t.stallCnt.toNat) → t.run = false →
        t.haltCause.getLsbD 9 = false)

/-- R84, R45: the frame of the commands: none writes an input register, a bias register or the build; only UPDATE writes
the estimate, the telemetry and the counters; only UPDATE and SYNC write PREV_TS; only SYNC writes TS_VALID and only LOCK
BIAS_LOCKED; only UPDATE and ABORT move the halt latch. -/
def Obligations.CommandFrames : Prop :=
  ∀ (op : Opcode) (s t : State), exec op.instr s = .next t →
    SameOutside s t ∧
    (op ≠ .update →
      t.est = s.est ∧ t.faultCnt = s.faultCnt ∧ t.livePrev = s.livePrev ∧ t.stallCnt = s.stallCnt ∧ t.draws = s.draws) ∧
    (op ≠ .update → op ≠ .sync → t.prevTs = s.prevTs) ∧ (op ≠ .sync → t.tsValid = s.tsValid) ∧
    (op ≠ .lock → t.biasLocked = s.biasLocked) ∧
    (op ≠ .update → op ≠ .abort → t.run = s.run ∧ t.haltCause = s.haltCause)

/-! ## Events and the latch -/

/-- R143, R141: an `abort_async` event, in RUNNING, clears RUN and records ABORT_ASYNC alone; in HALTED it changes
nothing. -/
def Obligations.AsyncAbortHalts : Prop :=
  ∀ (s : State) (rest : List Event), s.inbox = .abortAsync :: rest →
    (s.run = true → step s = .next { s with run := false, haltCause := 0x002#10, inbox := rest }) ∧
    (s.run = false → step s = .next { s with inbox := rest })

/-- R201, R21: `rst` gives every register its reset value in one step: every register reads as after reset. (That the
response is cleared too is the model's choice, log 6.) -/
def Obligations.ResetRestoresEveryRegister : Prop :=
  ∀ (s : State) (rest : List Event), s.inbox = .rst :: rest →
    ∃ t, step s = .next t ∧ t = { State.reset with cfg := s.cfg, draws := s.draws, inbox := rest } ∧
      readReg t .status = 0x1#64 ∧ ∀ r, r ≠ .status → readReg t r = 0#64

/-- R142: from HALTED no transaction and no `abort_async` event sets RUN or changes HALT_CAUSE; only `rst` does. -/
def Obligations.HaltedStaysHalted : Prop :=
  ∀ s t : State, s.run = false → step s = .next t →
    ((∀ rest, s.inbox ≠ .rst :: rest) → t.run = false ∧ t.haltCause = s.haltCause) ∧
    ((∃ rest, s.inbox = .rst :: rest) → t.run = true ∧ t.haltCause = 0#10)

/-- R202, R142: over every execution with no `rst`, however long, a halted block stays halted with the same cause. -/
def Obligations.HaltedForeverWithoutReset : Prop :=
  ∀ (n : Nat) (s t : State), s.run = false → resetFree s.inbox = true → Host.Core.run Sys2Proof.core n s = .next t →
    t.run = false ∧ t.haltCause = s.haltCause

/-- R140: nothing but UPDATE, ABORT and `abort_async` clears RUN. -/
def Obligations.OnlyListedSourcesHalt : Prop :=
  ∀ s t : State, s.run = true → step s = .next t → t.run = false →
    (∃ rest, s.inbox = .abortAsync :: rest) ∨ NextPerforms s .abort ∨ (NextPerforms s .update ∧ Admitted s)

/-- R144: after a halt, by whatever step, the next UPDATE, whatever came in between but an `rst`, is refused with
ERR = HALTED and changes nothing else (the port answers OKAY, R64). -/
def Obligations.UpdateAfterHaltRefused : Prop :=
  ∀ (s t u : State) (n : Nat), s.run = true → step s = .next t → t.run = false → resetFree t.inbox = true →
    Host.Core.run Sys2Proof.core n t = .next u →
    exec .update u = .next { u with err := 0x02#8, resp := some ⟨.okay, none⟩ }

/-- R38, R39, R45: the estimate, the telemetry and DT_NS move only in an admitted UPDATE with a good sample, or at `rst`. -/
def Obligations.EstimateMovesOnlyInGoodUpdate : Prop :=
  ∀ s t : State, step s = .next t → t.est ≠ s.est →
    (∃ rest, s.inbox = .rst :: rest) ∨ (NextPerforms s .update ∧ Admitted s ∧ SampleGood s)

/-- R45: the input registers move only by a host write to one of them, and the bias registers only by a host write before
LOCK; or at `rst`. -/
def Obligations.InputsMoveOnlyByHostWrites : Prop :=
  ∀ s t : State, step s = .next t → (∀ rest, s.inbox ≠ .rst :: rest) →
    (t.inputs ≠ s.inputs → ∃ r v, regAccess r = .rw ∧ NextRuns s (.wr (regOffset r) 8 v)) ∧
    (t.bias ≠ s.bias → s.biasLocked = false ∧ ∃ r v, regAccess r = .rwl ∧ NextRuns s (.wr (regOffset r) 8 v))

/-- R25, R36, R71: once locked, the biases stay as they are and locked, over every execution with no `rst`. -/
def Obligations.BiasImmutableAfterLock : Prop :=
  ∀ (n : Nat) (s t : State), s.biasLocked = true → resetFree s.inbox = true →
    Host.Core.run Sys2Proof.core n s = .next t → t.biasLocked = true ∧ t.bias = s.bias

/-- R37: BIAS_GZ and BIAS_AZ are read by no operation: changing them changes nothing else in what any instruction does,
but for a read of one of them and a write to one of them. -/
def Obligations.UnusedBiasesAffectNothing : Prop :=
  ∀ (i : Instr) (s t : State) (gz az : F64),
    (∀ r width, (r = .biasGz ∨ r = .biasAz) → i ≠ .rd (regOffset r) width ∧ ∀ v, i ≠ .wr (regOffset r) width v) →
    exec i s = .next t →
    exec i { s with bias := { s.bias with gz := gz, az := az } } =
      .next { t with bias := { t.bias with gz := gz, az := az } }

/-- R139, R74: what a faulted UPDATE does, for a transport fault or an out-of-range TS, is independent of the sample
registers, which are not trusted. -/
def Obligations.FaultedUpdateIgnoresTheSample : Prop :=
  ∀ (s t : State) (ax ay az gx gy gz : BitVec 16), Admitted s →
    (s.inputs.sfault = 1#1 ∨ s.cfg.nsPerS ≤ s.inputs.ts.toNat) → exec .update s = .next t →
    exec .update
        { s with
          inputs :=
            { s.inputs with
              sampleAx := ax, sampleAy := ay, sampleAz := az, sampleGx := gx, sampleGy := gy, sampleGz := gz } } =
      .next
        { t with
          inputs :=
            { t.inputs with
              sampleAx := ax, sampleAy := ay, sampleAz := az, sampleGx := gx, sampleGy := gy, sampleGz := gz } }

/-- R134: with a delivered stop character an admitted UPDATE, good or faulted, halts with STOP_CHAR; without VALID, or with
another character, it never sets the STOP_CHAR bit. For every STOP_TOKEN: the byte the build names, or the open one
(`stopByte`). And no step but such an UPDATE halts with the STOP_CHAR bit. -/
def Obligations.StopCharacterHalts : Prop :=
  (∀ s : State, Admitted s →
    ∃ t, exec .update s = .next t ∧
      (s.inputs.cmdchar = 1#1 ++ s.cfg.stopByte → t.run = false ∧ t.haltCause.getLsbD 2 = true) ∧
      (s.inputs.cmdchar.getLsbD 8 = false ∨ s.inputs.cmdchar.extractLsb' 0 8 ≠ s.cfg.stopByte → t.run = false →
        t.haltCause.getLsbD 2 = false)) ∧
  (∀ (s : State) (b : BitVec 8), Admitted s → s.cfg.stopToken = some b →
    ∃ t, exec .update s = .next t ∧
      (s.inputs.cmdchar = 1#1 ++ b → t.run = false ∧ t.haltCause.getLsbD 2 = true) ∧
      (s.inputs.cmdchar ≠ 1#1 ++ b → t.run = false → t.haltCause.getLsbD 2 = false)) ∧
  ∀ s t : State, s.run = true → step s = .next t → t.run = false → t.haltCause.getLsbD 2 = true →
    NextPerforms s .update ∧ Admitted s ∧ s.inputs.cmdchar = 1#1 ++ s.cfg.stopByte

/-- R139: with FAULT_HALT_COUNT = 2 and no other condition, the first faulted UPDATE holds and the second consecutive one
halts with TRANSPORT alone. -/
def Obligations.SecondConsecutiveFaultHalts : Prop :=
  ∀ s : State, Admitted s → s.inputs.sfault = 1#1 → s.cfg.faultHaltCount = 2#8 → s.cfg.livenessTimeout = 0#32 →
    s.inputs.cmdchar.getLsbD 8 = false → s.faultCnt = 0#8 →
    ∃ t u, exec .update s = .next t ∧ t.run = true ∧ t.faultCnt = 1#8 ∧ exec .update t = .next u ∧ u.run = false ∧
      u.haltCause = 0x100#10 ∧ u.faultCnt = 2#8 ∧ u.est = s.est ∧ u.err = 0x06#8

/-! ## Invariants -/

/-- R201, R7: the invariant holds right after reset, for the default build, whose parameters are R7's defaults. -/
def Obligations.InvariantAtReset : Prop :=
  BlockInv State.reset ∧
  State.reset.cfg =
    { fmt := .binary64, accFsr := 0x4000000000000000#64, gyroFsr := 0x407F400000000000#64
      halfRange := 0x40E0000000000000#64, alpha := 0x3F947AE147AE147B#64, oneMinusAlpha := 0x3FEF5C28F5C28F5C#64
      nsPerS := 1000000000, rollLimit := 0x4046800000000000#64, pitchLimit := 0x4046800000000000#64
      gyroLimit := 0x4072C00000000000#64, degNum := 0x4066800000000000#64, pi := 0x400921FB54442D18#64
      atan2 := .reference, fusion := .multiplicative, stopToken := none, faultHaltCount := 2#8
      livenessTimeout := 0#32, nCal := 1000 }

/-- R38, R41, R42, R131, R132, R135, R139, R141, R159, R170: every step keeps the invariant: while RUNNING the estimate is
within the limits and no counter has reached its threshold; HALT_CAUSE is zero exactly while RUNNING; PREV_TS and DT_NS
are in range; no cycle has left a trace before LOCK and SYNC; ERR holds an assigned code. -/
def Obligations.InvariantKeptByEveryStep : Prop :=
  ∀ s t : State, BlockInv s → step s = .next t → BlockInv t

/-- R130, R131, R132: whatever the host and the abort source do, in whatever order and for however long, as long as the
block built with the default parameters is RUNNING its roll and pitch are no NaN and within 45 degrees. -/
def Obligations.RunningMeansWithinLimits : Prop :=
  ∀ (program : List Event) (n : Nat) (t : State),
    Host.Core.run Sys2Proof.core n { State.reset with inbox := program } = .next t → t.run = true →
    fle (fabs t.est.roll) 0x4046800000000000#64 = true ∧ fle (fabs t.est.pitch) 0x4046800000000000#64 = true

/-! ## Arithmetic and the filter -/

/-- R11, D2: rounding to nearest, ties to even: no finite magnitude is nearer the exact ratio than the one `roundMag`
gives, a tie goes to the even pattern, and infinity is given exactly from half a last place above the largest finite
value on. `+f`, `-f`, `*f` and `/f` on finite data are the rounding of the exact sum, difference, product and quotient
(`/f` for a divisor that is no zero); the sign of a product and a quotient is that of the two signs, zeros included, an
exact zero sum is +0.0 unless both operands are negative (IEEE 754's rule, log 11); `f64` is exact up to 2^53. On NaN and
infinite operands and zero divisors the results are IEEE 754's (R104, R115, R116, G3, G7, log 11), and `negf` and `fabs`
change the sign only. -/
def Obligations.RoundingIsToNearestEven : Prop :=
  (∀ num den m : Nat, 0 < den → m < infMag →
    (roundMag num den = infMag ↔ (2 ^ 54 - 1) * 2 ^ 2044 * den ≤ num) ∧
    (roundMag num den < infMag →
      ((magUnits (roundMag num den) * den : Nat) - (num : Int)).natAbs ≤ ((magUnits m * den : Nat) - (num : Int)).natAbs ∧
      (((magUnits (roundMag num den) * den : Nat) - (num : Int)).natAbs
          = ((magUnits m * den : Nat) - (num : Int)).natAbs →
        m ≠ roundMag num den → roundMag num den % 2 = 0))) ∧
  (∀ (d : Nat) (a b : F64), isFinite a = true → isFinite b = true →
    IsRounding (fadd d a b) (signedUnits a + signedUnits b) 1 ∧
    IsRounding (fsub d a b) (signedUnits a - signedUnits b) 1 ∧
    IsRounding (fmul d a b) (signedUnits a * signedUnits b) (2 ^ unitExp) ∧
    (isZero b = false →
      IsRounding (fdiv d a b) (signedUnits a * (signedUnits b).sign * 2 ^ unitExp) (signedUnits b).natAbs) ∧
    (signedUnits a + signedUnits b = 0 → signOf (fadd d a b) = (signOf a && signOf b)) ∧
    (signedUnits a - signedUnits b = 0 → signOf (fsub d a b) = (signOf a && !signOf b)) ∧
    signOf (fmul d a b) = (signOf a != signOf b) ∧
    (isZero b = false → signOf (fdiv d a b) = (signOf a != signOf b))) ∧
  (∀ i : Int, i.natAbs ≤ 2 ^ 53 →
    isFinite (f64OfInt i) = true ∧ signedUnits (f64OfInt i) = i * 2 ^ unitExp ∧ (i = 0 → f64OfInt i = 0#64)) ∧
  (∀ (d : Nat) (a b : F64), SpecialResults d a b) ∧
  ∀ a : F64, magOf (negf a) = magOf a ∧ signOf (negf a) = !signOf a ∧ magOf (fabs a) = magOf a ∧ signOf (fabs a) = false

/-- R11: on finite data `<=f` is the order of the values, and it is false when either operand is a NaN. -/
def Obligations.FloatOrderIsOrderOfValues : Prop :=
  ∀ a b : F64,
    (isFinite a = true → isFinite b = true → (fle a b = true ↔ signedUnits a ≤ signedUnits b)) ∧
    (isNaN a = true ∨ isNaN b = true → fle a b = false)

/-- R131: with a limit of 45.0 a datum is a violation exactly when it is a NaN or its magnitude is above 45.0; 45.0 and
-45.0 are not. -/
def Obligations.LimitComparatorRejectsNaN : Prop :=
  ∀ x : F64, exceeds x 0x4046800000000000#64 = true ↔ (isNaN x = true ∨ 0x4046800000000000 < magOf x)

/-- R100, R85: the raw value is the two's complement reading of {HI, LO}. -/
def Obligations.RawIsTwosComplement : Prop :=
  ∀ h l : BitVec 8,
    raw (h ++ l) = (h ++ l).toInt ∧
    raw (h ++ l) = (if h.toNat * 256 + l.toNat > 32767 then (h.toNat * 256 + l.toNat : Int) - 65536
      else (h.toNat * 256 + l.toNat : Int))

/-- R103, R101: for both default full-scale ranges the physical value is finite and exact, and gives the byte pair back:
p * 32768 / fsr is an integer in the 16-bit range whose two's complement is {h, l}. -/
def Obligations.DecodeIsInvertible : Prop :=
  ∀ (c : Config) (d : Nat) (h l : BitVec 8) (fsr : F64), c.halfRange = 0x40E0000000000000#64 →
    (fsr = 0x407F400000000000#64 ∨ fsr = 0x4000000000000000#64) →
    isFinite (scale c d (raw (h ++ l)) fsr) = true ∧
    ∃ v : Int, -32768 ≤ v ∧ v ≤ 32767 ∧
      signedUnits (scale c d (raw (h ++ l)) fsr) * 32768 = v * signedUnits fsr ∧ BitVec.ofInt 16 v = h ++ l

/-- R133: with the default range and limit a gyro word is a violation exactly when its raw value is 19661 or more in
magnitude. -/
def Obligations.GyroLimitInRawCounts : Prop :=
  ∀ (c : Config) (d : Nat) (w : BitVec 16), c.gyroFsr = 0x407F400000000000#64 → c.halfRange = 0x40E0000000000000#64 →
    c.gyroLimit = 0x4072C00000000000#64 →
    (violGyro c (gyroRate c d w) = true ↔ (19661 ≤ raw w ∨ raw w ≤ -19661))

/-- R105: `negf(bias) +f deg` is `deg -f bias`, bit for bit where it is no NaN. -/
def Obligations.DebiasAngleIsSubtraction : Prop :=
  ∀ (d e : Nat) (deg bias : F64), SameDatum (debiasAngle d deg bias) (fsub e deg bias)

/-- R110: the corrected delta of two timestamps below one second is 1 ns to one second and is their difference modulo one
second; equal timestamps give a full second. -/
def Obligations.DeltaIsPositiveAndBounded : Prop :=
  ∀ (c : Config) (ts prev : Nat), ts < c.nsPerS → prev < c.nsPerS →
    1 ≤ dtDelta c ts prev ∧ dtDelta c ts prev ≤ c.nsPerS ∧
    (dtDelta c ts prev = (ts : Int) - prev ∨ dtDelta c ts prev = (ts : Int) - prev + c.nsPerS) ∧
    (ts = prev → dtDelta c ts prev = c.nsPerS)

/-- R111: with the default second, a delta of 1 to 1,000,000,000 ns gives delta / 10^9 correctly rounded by one division:
a finite number of seconds, positive, from 1e-9 rounded to 1.0, and 1.0 exactly for 1,000,000,000. -/
def Obligations.SecondsArePositiveAndBounded : Prop :=
  ∀ (c : Config) (d : Nat) (delta : Int), c.nsPerS = 1000000000 → 1 ≤ delta → delta ≤ 1000000000 →
    IsRounding (dtSeconds c d delta) (delta * 2 ^ unitExp) 1000000000 ∧
    isFinite (dtSeconds c d delta) = true ∧ 0 < signedUnits (dtSeconds c d delta) ∧
    fle 0x3E112E0BE826D695#64 (dtSeconds c d delta) = true ∧ fle (dtSeconds c d delta) 0x3FF0000000000000#64 = true ∧
    (delta = 1 → dtSeconds c d delta = 0x3E112E0BE826D695#64) ∧
    (delta = 1000000000 → dtSeconds c d delta = 0x3FF0000000000000#64)

/-- R112: under the reference ATAN2 and the default constants, the inclination on the axes: level +0.0, inverted 180.0,
no acceleration +0.0, and 90.0 or -90.0 on its side. -/
def Obligations.InclinationOnTheAxes : Prop :=
  ∀ (c : Config) (d : Nat) (num az : BitVec 16), c.atan2 = .reference → c.degNum = 0x4066800000000000#64 →
    c.pi = 0x400921FB54442D18#64 →
    (raw num = 0 → raw az ≤ 0 → incl c d (raw num) (raw az) = 0#64) ∧
    (raw num = 0 → 0 < raw az → incl c d (raw num) (raw az) = 0x4066800000000000#64) ∧
    (0 < raw num → raw az = 0 → incl c d (raw num) (raw az) = 0x4056800000000000#64) ∧
    (raw num < 0 → raw az = 0 → incl c d (raw num) (raw az) = 0xC056800000000000#64)

/-- R112, D3, L2.4: under the reference ATAN2 and the default constants the inclination of every pair of raw values is no
NaN and lies in [-180.0, 180.0], with the sign of `num`; it is at most 45.0 in magnitude where |num| ≤ -az and 45.0 exactly
where they are equal and not 0, at most 90.0 where az < 0 and at least 90.0 where az > 0. The exact 45.0 and the bounds that
are reached rest on the reference's rounding, the cases with `num` or `az` zero on its special values (both log 3). -/
def Obligations.InclinationWithinHalfTurn : Prop :=
  ∀ (c : Config) (d : Nat) (num az : BitVec 16), c.atan2 = .reference → c.degNum = 0x4066800000000000#64 →
    c.pi = 0x400921FB54442D18#64 →
    fle (fabs (incl c d (raw num) (raw az))) 0x4066800000000000#64 = true ∧
    signOf (incl c d (raw num) (raw az)) = decide (raw num < 0) ∧
    ((raw num).natAbs = -raw az → raw num ≠ 0 → fabs (incl c d (raw num) (raw az)) = 0x4046800000000000#64) ∧
    ((raw num).natAbs ≤ -raw az → fle (fabs (incl c d (raw num) (raw az))) 0x4046800000000000#64 = true) ∧
    (raw az < 0 → fle (fabs (incl c d (raw num) (raw az))) 0x4056800000000000#64 = true) ∧
    (0 < raw az → fle 0x4056800000000000#64 (fabs (incl c d (raw num) (raw az))) = true)

/-- D3: the reference ATAN2 is odd in its first operand. -/
def Obligations.ReferenceAtan2IsOdd : Prop :=
  ∀ (d e : Nat) (y x : F64), SameDatum (refAtan2 d (negf y) x) (negf (refAtan2 e y x))

/-- R119: no drift at rest. In a good UPDATE of a MULTIPLICATIVE build with the default ALPHA and second, an axis whose
de-biased rate is zero and whose estimate is finite gets an estimate that is a number below 0.89 degrees in magnitude when
its accelerometer angle is at most 44 degrees in magnitude. -/
def Obligations.NoDriftAtRest : Prop :=
  ∀ s t : State, Admitted s → SampleGood s → s.cfg.fusion = .multiplicative → s.cfg.alpha = 0x3F947AE147AE147B#64 →
    s.cfg.oneMinusAlpha = 0x3FEF5C28F5C28F5C#64 → s.cfg.nsPerS = 1000000000 → exec .update s = .next t →
    (isZero t.est.gyroRollRate = true → isFinite s.est.roll = true →
      fle (fabs t.est.accRoll) 0x4046000000000000#64 = true →
        isNaN t.est.roll = false ∧ fle 0x3FEC7AE147AE147B#64 (fabs t.est.roll) = false) ∧
    (isZero t.est.gyroPitchRate = true → isFinite s.est.pitch = true →
      fle (fabs t.est.accPitch) 0x4046000000000000#64 = true →
        isNaN t.est.pitch = false ∧ fle 0x3FEC7AE147AE147B#64 (fabs t.est.pitch) = false)

/-! ## The host's side -/

/-- R175, L1.2: the calibration of a body at rest and level (all gyro raw values 0, ax = ay = 0, az = -16384) gives gyro,
roll and pitch biases of exactly +0.0, for every N_CAL the build has; and with the defaults, from its 1000 reads, an
accelerometer-z bias of -1.0000000000000007, the mean that L1.2 gives for -1.0. R175 speaks of N_CAL reads: that the first
part holds for lists of another length is the model's choice of what the procedure does with them (log 14). -/
def Obligations.LevelCalibrationIsZero : Prop :=
  ∀ (c : Config) (n : Nat), c.atan2 = .reference → c.degNum = 0x4066800000000000#64 → c.pi = 0x400921FB54442D18#64 →
    c.halfRange = 0x40E0000000000000#64 → c.gyroFsr = 0x407F400000000000#64 → 0 < c.nCal →
    let b := calibrate c (List.replicate n ⟨0x0000#16, 0x0000#16, 0xC000#16, 0x0000#16, 0x0000#16, 0x0000#16⟩)
    b.gx = 0#64 ∧ b.gy = 0#64 ∧ b.gz = 0#64 ∧ b.roll = 0#64 ∧ b.pitch = 0#64 ∧
    (c.accFsr = 0x4000000000000000#64 → c.nCal = 1000 → n = 1000 → b.az = 0xBFF0000000000003#64)

/-- R204, R205: booted in the order of R204 from reset, with any biases and an in-range clock, the block is RUNNING,
locked and synchronised, so the next UPDATE is admitted. -/
def Obligations.BootSequenceAdmitsUpdate : Prop :=
  ∀ (b : Bias) (ts : Nat), ts < 1000000000 →
    ∃ t, Host.Core.run Sys2Proof.core 9 { State.reset with inbox := hostProgram (bootLines b ts) } = .next t ∧
      Admitted t ∧ t.bias = b ∧ t.prevTs = BitVec.ofNat 30 ts ∧ t.inbox = [] ∧ t.err = 0x00#8
end

