-- ==== Sys2Proof/Laws/Float.lean ====
section
/-! SUPPORT. The small lemmas of the binary64 definitions: fields, bounds, signs and NaN. -/

namespace Sys2Proof.Machine

/-- The magnitude is the exponent field above the fraction field. -/
theorem magOf_fields (a : F64) : magOf a = (a.extractLsb' 52 11).toNat * 2 ^ 52 + (a.extractLsb' 0 52).toNat := by
  simp only [magOf, BitVec.extractLsb'_toNat, Nat.shiftRight_eq_div_pow]
  omega

theorem magOf_lt (a : F64) : magOf a < 2 ^ 63 := Nat.mod_lt _ (by decide)

/-- The pattern made of any 64 bits is a NaN (I24). -/
theorem isNaN_nanPattern (b : BitVec 64) : isNaN (nanPattern b) = true := by
  have hexp : (nanPattern b).extractLsb' 52 11 = 0x7FF#11 := by
    unfold nanPattern
    split <;>
    · ext i hi
      simp only [BitVec.getElem_extractLsb', BitVec.getLsbD_or]
      interval_cases i <;> simp
  have hfrac : (nanPattern b).extractLsb' 0 52 ≠ 0#52 := by
    unfold nanPattern
    split
    · intro h
      have := congrArg (fun x => x.getLsbD 0) h
      simp at this
    · rename_i hne
      intro h
      apply hne
      ext i hi
      have := congrArg (fun x => x.getLsbD i) h
      simp [hi] at this ⊢
      exact this.1
  have hpos : 0 < ((nanPattern b).extractLsb' 0 52).toNat := by
    rcases Nat.eq_zero_or_pos ((nanPattern b).extractLsb' 0 52).toNat with h | h
    · exact absurd (BitVec.eq_of_toNat_eq (by simpa using h)) hfrac
    · exact h
  rw [isNaN, magOf_fields, hexp, decide_eq_true_iff]
  simp only [infMag, BitVec.reduceToNat]
  omega

/-- Every NaN result is a NaN, whatever its free bits are. -/
@[simp] theorem isNaN_freeNaN (d : Nat) : isNaN (freeNaN d) = true := isNaN_nanPattern _

/-- Every NaN pattern is one of the free ones' possible values. -/
theorem nanPattern_of_isNaN (a : F64) (h : isNaN a = true) : nanPattern a = a := by
  rw [isNaN, magOf_fields, decide_eq_true_iff] at h
  have h1 := (a.extractLsb' 52 11).isLt
  have h0 := (a.extractLsb' 0 52).isLt
  simp only [infMag] at h
  have hexp : a.extractLsb' 52 11 = 0x7FF#11 := by
    apply BitVec.eq_of_toNat_eq
    simp only [BitVec.reduceToNat]
    omega
  have hfrac : a.extractLsb' 0 52 ≠ 0#52 := by
    intro hz
    rw [hz, hexp] at h
    simp at h
  unfold nanPattern
  rw [if_neg hfrac]
  ext i hi
  have hbit := congrArg (fun x => x.getLsbD (i - 52)) hexp
  simp only [BitVec.getLsbD_extractLsb'] at hbit
  rw [BitVec.getElem_or]
  by_cases h52 : 52 ≤ i ∧ i < 63
  · have hi' : 52 + (i - 52) = i := by omega
    have hlt : i - 52 < 11 := by omega
    simp only [hi', hlt, decide_true, Bool.true_and] at hbit
    obtain ⟨ha, hb⟩ := h52
    have : a[i] = true := by
      rw [← BitVec.getLsbD_eq_getElem, hbit]
      interval_cases i <;> rfl
    simp [this]
  · have hlow : ∀ j : Fin 64, ¬ (52 ≤ j.val ∧ j.val < 63) → (0x7FF0000000000000#64).getLsbD j.val = false := by decide
    have : (0x7FF0000000000000#64)[i] = false := by
      rw [← BitVec.getLsbD_eq_getElem]
      exact hlow ⟨i, hi⟩ h52
    simp [this]

@[simp] theorem magOf_pack (neg : Bool) (m : Nat) (h : m < 2 ^ 63) : magOf (pack neg m) = m := by
  cases neg <;> simp only [magOf, pack, BitVec.toNat_ofNat] <;> simp <;> omega

theorem signOf_eq_decide (a : F64) : signOf a = decide (2 ^ 63 ≤ a.toNat) :=
  BitVec.msb_eq_decide a

@[simp] theorem signOf_pack (neg : Bool) (m : Nat) (h : m < 2 ^ 63) : signOf (pack neg m) = neg := by
  rw [signOf_eq_decide]
  cases neg <;> simp only [pack, BitVec.toNat_ofNat] <;> simp <;> omega

/-- A pattern is its sign and its magnitude. -/
theorem pack_signOf_magOf (a : F64) : pack (signOf a) (magOf a) = a := by
  have := a.isLt
  apply BitVec.eq_of_toNat_eq
  rw [signOf_eq_decide]
  simp only [pack, magOf, BitVec.toNat_ofNat, decide_eq_true_eq]
  split <;> omega

/-- Rounding never passes infinity. -/
theorem roundMag_le (num den : Nat) : roundMag num den ≤ infMag := Nat.min_le_left _ _

theorem roundMag_lt (num den : Nat) : roundMag num den < 2 ^ 63 :=
  lt_of_le_of_lt (roundMag_le num den) (by decide)

@[simp] theorem magOf_negf (a : F64) : magOf (negf a) = magOf a := by
  have h : ∀ i, i < 63 → (negf a).getLsbD i = a.getLsbD i := by
    intro i hi
    simp only [negf, BitVec.getLsbD_xor]
    interval_cases i <;> simp
  have hm : ∀ b : F64, magOf b = (b.extractLsb' 0 63).toNat := by
    intro b
    simp [magOf, BitVec.extractLsb'_toNat]
  rw [hm, hm]
  congr 1
  ext i hi
  simpa using h i hi

@[simp] theorem signOf_negf (a : F64) : signOf (negf a) = !signOf a := by
  simp [signOf, negf]

@[simp] theorem magOf_fabs (a : F64) : magOf (fabs a) = magOf a := by
  have h : ∀ i, i < 63 → (fabs a).getLsbD i = a.getLsbD i := by
    intro i hi
    simp only [fabs, BitVec.getLsbD_and]
    interval_cases i <;> simp
  have hm : ∀ b : F64, magOf b = (b.extractLsb' 0 63).toNat := by
    intro b
    simp [magOf, BitVec.extractLsb'_toNat]
  rw [hm, hm]
  congr 1
  ext i hi
  simpa using h i hi

@[simp] theorem signOf_fabs (a : F64) : signOf (fabs a) = false := by
  simp [signOf, fabs]

@[simp] theorem isNaN_negf (a : F64) : isNaN (negf a) = isNaN a := by simp [isNaN]

@[simp] theorem isNaN_fabs (a : F64) : isNaN (fabs a) = isNaN a := by simp [isNaN]

@[simp] theorem negf_negf (a : F64) : negf (negf a) = a := by
  simp [negf]

end Sys2Proof.Machine
end

