-- ==== Sys2Proof/Laws/State.lean ====
section
/-! SUPPORT. One lemma per field per update of the state, so that no later proof unfolds a record update. -/

namespace Sys2Proof.Machine

@[simp] theorem okayWrite_eq (s : State) : okayWrite s = respond .okay none s := rfl
@[simp] theorem okayRead_eq (v : Word) (s : State) : okayRead v s = respond .okay (some v) s := rfl
@[simp] theorem slverrWrite_eq (s : State) : slverrWrite s = respond .slverr none s := rfl
@[simp] theorem slverrRead_eq (s : State) : slverrRead s = respond .slverr (some 0#64) s := rfl
@[simp] theorem reject_eq (c : ResultCode) (s : State) : reject c s = setErr c s := rfl

@[simp] theorem setErr_cfg (c : ResultCode) (s : State) : (setErr c s).cfg = s.cfg := rfl
@[simp] theorem setErr_run (c : ResultCode) (s : State) : (setErr c s).run = s.run := rfl
@[simp] theorem setErr_biasLocked (c : ResultCode) (s : State) : (setErr c s).biasLocked = s.biasLocked := rfl
@[simp] theorem setErr_tsValid (c : ResultCode) (s : State) : (setErr c s).tsValid = s.tsValid := rfl
@[simp] theorem setErr_err (c : ResultCode) (s : State) : (setErr c s).err = resultCode c := rfl
@[simp] theorem setErr_haltCause (c : ResultCode) (s : State) : (setErr c s).haltCause = s.haltCause := rfl
@[simp] theorem setErr_inputs (c : ResultCode) (s : State) : (setErr c s).inputs = s.inputs := rfl
@[simp] theorem setErr_bias (c : ResultCode) (s : State) : (setErr c s).bias = s.bias := rfl
@[simp] theorem setErr_est (c : ResultCode) (s : State) : (setErr c s).est = s.est := rfl
@[simp] theorem setErr_prevTs (c : ResultCode) (s : State) : (setErr c s).prevTs = s.prevTs := rfl
@[simp] theorem setErr_faultCnt (c : ResultCode) (s : State) : (setErr c s).faultCnt = s.faultCnt := rfl
@[simp] theorem setErr_livePrev (c : ResultCode) (s : State) : (setErr c s).livePrev = s.livePrev := rfl
@[simp] theorem setErr_stallCnt (c : ResultCode) (s : State) : (setErr c s).stallCnt = s.stallCnt := rfl
@[simp] theorem setErr_draws (c : ResultCode) (s : State) : (setErr c s).draws = s.draws := rfl
@[simp] theorem setErr_resp (c : ResultCode) (s : State) : (setErr c s).resp = s.resp := rfl
@[simp] theorem setErr_inbox (c : ResultCode) (s : State) : (setErr c s).inbox = s.inbox := rfl

@[simp] theorem respond_cfg (k : RespCode) (d : Option Word) (s : State) : (respond k d s).cfg = s.cfg := rfl
@[simp] theorem respond_run (k : RespCode) (d : Option Word) (s : State) : (respond k d s).run = s.run := rfl
@[simp] theorem respond_biasLocked (k : RespCode) (d : Option Word) (s : State) : (respond k d s).biasLocked = s.biasLocked := rfl
@[simp] theorem respond_tsValid (k : RespCode) (d : Option Word) (s : State) : (respond k d s).tsValid = s.tsValid := rfl
@[simp] theorem respond_err (k : RespCode) (d : Option Word) (s : State) : (respond k d s).err = s.err := rfl
@[simp] theorem respond_haltCause (k : RespCode) (d : Option Word) (s : State) : (respond k d s).haltCause = s.haltCause := rfl
@[simp] theorem respond_inputs (k : RespCode) (d : Option Word) (s : State) : (respond k d s).inputs = s.inputs := rfl
@[simp] theorem respond_bias (k : RespCode) (d : Option Word) (s : State) : (respond k d s).bias = s.bias := rfl
@[simp] theorem respond_est (k : RespCode) (d : Option Word) (s : State) : (respond k d s).est = s.est := rfl
@[simp] theorem respond_prevTs (k : RespCode) (d : Option Word) (s : State) : (respond k d s).prevTs = s.prevTs := rfl
@[simp] theorem respond_faultCnt (k : RespCode) (d : Option Word) (s : State) : (respond k d s).faultCnt = s.faultCnt := rfl
@[simp] theorem respond_livePrev (k : RespCode) (d : Option Word) (s : State) : (respond k d s).livePrev = s.livePrev := rfl
@[simp] theorem respond_stallCnt (k : RespCode) (d : Option Word) (s : State) : (respond k d s).stallCnt = s.stallCnt := rfl
@[simp] theorem respond_draws (k : RespCode) (d : Option Word) (s : State) : (respond k d s).draws = s.draws := rfl
@[simp] theorem respond_resp (k : RespCode) (d : Option Word) (s : State) : (respond k d s).resp = some ⟨k, d⟩ := rfl
@[simp] theorem respond_inbox (k : RespCode) (d : Option Word) (s : State) : (respond k d s).inbox = s.inbox := rfl

@[simp] theorem resetBlock_cfg (s : State) : (resetBlock s).cfg = s.cfg := rfl
@[simp] theorem resetBlock_run (s : State) : (resetBlock s).run = true := rfl
@[simp] theorem resetBlock_biasLocked (s : State) : (resetBlock s).biasLocked = false := rfl
@[simp] theorem resetBlock_tsValid (s : State) : (resetBlock s).tsValid = false := rfl
@[simp] theorem resetBlock_err (s : State) : (resetBlock s).err = 0#8 := rfl
@[simp] theorem resetBlock_haltCause (s : State) : (resetBlock s).haltCause = 0#10 := rfl
@[simp] theorem resetBlock_inputs (s : State) : (resetBlock s).inputs = {} := rfl
@[simp] theorem resetBlock_bias (s : State) : (resetBlock s).bias = {} := rfl
@[simp] theorem resetBlock_est (s : State) : (resetBlock s).est = {} := rfl
@[simp] theorem resetBlock_prevTs (s : State) : (resetBlock s).prevTs = 0#30 := rfl
@[simp] theorem resetBlock_faultCnt (s : State) : (resetBlock s).faultCnt = 0#8 := rfl
@[simp] theorem resetBlock_livePrev (s : State) : (resetBlock s).livePrev = 0#32 := rfl
@[simp] theorem resetBlock_stallCnt (s : State) : (resetBlock s).stallCnt = 0#32 := rfl
@[simp] theorem resetBlock_draws (s : State) : (resetBlock s).draws = s.draws := rfl
@[simp] theorem resetBlock_resp (s : State) : (resetBlock s).resp = none := rfl
@[simp] theorem resetBlock_inbox (s : State) : (resetBlock s).inbox = s.inbox := rfl

@[simp] theorem countFault_cfg (s : State) : (countFault s).cfg = s.cfg := rfl
@[simp] theorem countFault_run (s : State) : (countFault s).run = s.run := rfl
@[simp] theorem countFault_biasLocked (s : State) : (countFault s).biasLocked = s.biasLocked := rfl
@[simp] theorem countFault_tsValid (s : State) : (countFault s).tsValid = s.tsValid := rfl
@[simp] theorem countFault_err (s : State) : (countFault s).err = s.err := rfl
@[simp] theorem countFault_haltCause (s : State) : (countFault s).haltCause = s.haltCause := rfl
@[simp] theorem countFault_inputs (s : State) : (countFault s).inputs = s.inputs := rfl
@[simp] theorem countFault_bias (s : State) : (countFault s).bias = s.bias := rfl
@[simp] theorem countFault_est (s : State) : (countFault s).est = s.est := rfl
@[simp] theorem countFault_prevTs (s : State) : (countFault s).prevTs = s.prevTs := rfl
@[simp] theorem countFault_faultCnt (s : State) : (countFault s).faultCnt = satInc s.faultCnt := rfl
@[simp] theorem countFault_livePrev (s : State) : (countFault s).livePrev = s.livePrev := rfl
@[simp] theorem countFault_stallCnt (s : State) : (countFault s).stallCnt = s.stallCnt := rfl
@[simp] theorem countFault_draws (s : State) : (countFault s).draws = s.draws := rfl
@[simp] theorem countFault_resp (s : State) : (countFault s).resp = s.resp := rfl
@[simp] theorem countFault_inbox (s : State) : (countFault s).inbox = s.inbox := rfl

@[simp] theorem clearFaults_cfg (s : State) : (clearFaults s).cfg = s.cfg := rfl
@[simp] theorem clearFaults_run (s : State) : (clearFaults s).run = s.run := rfl
@[simp] theorem clearFaults_biasLocked (s : State) : (clearFaults s).biasLocked = s.biasLocked := rfl
@[simp] theorem clearFaults_tsValid (s : State) : (clearFaults s).tsValid = s.tsValid := rfl
@[simp] theorem clearFaults_err (s : State) : (clearFaults s).err = s.err := rfl
@[simp] theorem clearFaults_haltCause (s : State) : (clearFaults s).haltCause = s.haltCause := rfl
@[simp] theorem clearFaults_inputs (s : State) : (clearFaults s).inputs = s.inputs := rfl
@[simp] theorem clearFaults_bias (s : State) : (clearFaults s).bias = s.bias := rfl
@[simp] theorem clearFaults_est (s : State) : (clearFaults s).est = s.est := rfl
@[simp] theorem clearFaults_prevTs (s : State) : (clearFaults s).prevTs = s.prevTs := rfl
@[simp] theorem clearFaults_faultCnt (s : State) : (clearFaults s).faultCnt = 0#8 := rfl
@[simp] theorem clearFaults_livePrev (s : State) : (clearFaults s).livePrev = s.livePrev := rfl
@[simp] theorem clearFaults_stallCnt (s : State) : (clearFaults s).stallCnt = s.stallCnt := rfl
@[simp] theorem clearFaults_draws (s : State) : (clearFaults s).draws = s.draws := rfl
@[simp] theorem clearFaults_resp (s : State) : (clearFaults s).resp = s.resp := rfl
@[simp] theorem clearFaults_inbox (s : State) : (clearFaults s).inbox = s.inbox := rfl

@[simp] theorem livenessUpdate_cfg (s : State) : (livenessUpdate s).cfg = s.cfg := rfl
@[simp] theorem livenessUpdate_run (s : State) : (livenessUpdate s).run = s.run := rfl
@[simp] theorem livenessUpdate_biasLocked (s : State) : (livenessUpdate s).biasLocked = s.biasLocked := rfl
@[simp] theorem livenessUpdate_tsValid (s : State) : (livenessUpdate s).tsValid = s.tsValid := rfl
@[simp] theorem livenessUpdate_err (s : State) : (livenessUpdate s).err = s.err := rfl
@[simp] theorem livenessUpdate_haltCause (s : State) : (livenessUpdate s).haltCause = s.haltCause := rfl
@[simp] theorem livenessUpdate_inputs (s : State) : (livenessUpdate s).inputs = s.inputs := rfl
@[simp] theorem livenessUpdate_bias (s : State) : (livenessUpdate s).bias = s.bias := rfl
@[simp] theorem livenessUpdate_est (s : State) : (livenessUpdate s).est = s.est := rfl
@[simp] theorem livenessUpdate_prevTs (s : State) : (livenessUpdate s).prevTs = s.prevTs := rfl
@[simp] theorem livenessUpdate_faultCnt (s : State) : (livenessUpdate s).faultCnt = s.faultCnt := rfl
@[simp] theorem livenessUpdate_livePrev (s : State) : (livenessUpdate s).livePrev = s.inputs.live := rfl
@[simp] theorem livenessUpdate_stallCnt (s : State) : (livenessUpdate s).stallCnt = if s.inputs.live = s.livePrev then satInc s.stallCnt else 0#32 := rfl
@[simp] theorem livenessUpdate_draws (s : State) : (livenessUpdate s).draws = s.draws := rfl
@[simp] theorem livenessUpdate_resp (s : State) : (livenessUpdate s).resp = s.resp := rfl
@[simp] theorem livenessUpdate_inbox (s : State) : (livenessUpdate s).inbox = s.inbox := rfl

@[simp] theorem latchTs_cfg (s : State) : (latchTs s).cfg = s.cfg := rfl
@[simp] theorem latchTs_run (s : State) : (latchTs s).run = s.run := rfl
@[simp] theorem latchTs_biasLocked (s : State) : (latchTs s).biasLocked = s.biasLocked := rfl
@[simp] theorem latchTs_tsValid (s : State) : (latchTs s).tsValid = true := rfl
@[simp] theorem latchTs_err (s : State) : (latchTs s).err = s.err := rfl
@[simp] theorem latchTs_haltCause (s : State) : (latchTs s).haltCause = s.haltCause := rfl
@[simp] theorem latchTs_inputs (s : State) : (latchTs s).inputs = s.inputs := rfl
@[simp] theorem latchTs_bias (s : State) : (latchTs s).bias = s.bias := rfl
@[simp] theorem latchTs_est (s : State) : (latchTs s).est = s.est := rfl
@[simp] theorem latchTs_prevTs (s : State) : (latchTs s).prevTs = s.inputs.ts := rfl
@[simp] theorem latchTs_faultCnt (s : State) : (latchTs s).faultCnt = s.faultCnt := rfl
@[simp] theorem latchTs_livePrev (s : State) : (latchTs s).livePrev = s.livePrev := rfl
@[simp] theorem latchTs_stallCnt (s : State) : (latchTs s).stallCnt = s.stallCnt := rfl
@[simp] theorem latchTs_draws (s : State) : (latchTs s).draws = s.draws := rfl
@[simp] theorem latchTs_resp (s : State) : (latchTs s).resp = s.resp := rfl
@[simp] theorem latchTs_inbox (s : State) : (latchTs s).inbox = s.inbox := rfl

@[simp] theorem lockBias_cfg (s : State) : (lockBias s).cfg = s.cfg := rfl
@[simp] theorem lockBias_run (s : State) : (lockBias s).run = s.run := rfl
@[simp] theorem lockBias_biasLocked (s : State) : (lockBias s).biasLocked = true := rfl
@[simp] theorem lockBias_tsValid (s : State) : (lockBias s).tsValid = s.tsValid := rfl
@[simp] theorem lockBias_err (s : State) : (lockBias s).err = s.err := rfl
@[simp] theorem lockBias_haltCause (s : State) : (lockBias s).haltCause = s.haltCause := rfl
@[simp] theorem lockBias_inputs (s : State) : (lockBias s).inputs = s.inputs := rfl
@[simp] theorem lockBias_bias (s : State) : (lockBias s).bias = s.bias := rfl
@[simp] theorem lockBias_est (s : State) : (lockBias s).est = s.est := rfl
@[simp] theorem lockBias_prevTs (s : State) : (lockBias s).prevTs = s.prevTs := rfl
@[simp] theorem lockBias_faultCnt (s : State) : (lockBias s).faultCnt = s.faultCnt := rfl
@[simp] theorem lockBias_livePrev (s : State) : (lockBias s).livePrev = s.livePrev := rfl
@[simp] theorem lockBias_stallCnt (s : State) : (lockBias s).stallCnt = s.stallCnt := rfl
@[simp] theorem lockBias_draws (s : State) : (lockBias s).draws = s.draws := rfl
@[simp] theorem lockBias_resp (s : State) : (lockBias s).resp = s.resp := rfl
@[simp] theorem lockBias_inbox (s : State) : (lockBias s).inbox = s.inbox := rfl

@[simp] theorem commit_cfg (r : FilterOut) (s : State) : (commit r s).cfg = s.cfg := rfl
@[simp] theorem commit_run (r : FilterOut) (s : State) : (commit r s).run = s.run := rfl
@[simp] theorem commit_biasLocked (r : FilterOut) (s : State) : (commit r s).biasLocked = s.biasLocked := rfl
@[simp] theorem commit_tsValid (r : FilterOut) (s : State) : (commit r s).tsValid = s.tsValid := rfl
@[simp] theorem commit_err (r : FilterOut) (s : State) : (commit r s).err = s.err := rfl
@[simp] theorem commit_haltCause (r : FilterOut) (s : State) : (commit r s).haltCause = s.haltCause := rfl
@[simp] theorem commit_inputs (r : FilterOut) (s : State) : (commit r s).inputs = s.inputs := rfl
@[simp] theorem commit_bias (r : FilterOut) (s : State) : (commit r s).bias = s.bias := rfl
@[simp] theorem commit_est (r : FilterOut) (s : State) : (commit r s).est = ⟨r.roll, r.pitch, r.accRoll, r.accPitch, r.rateRoll, r.ratePitch, BitVec.ofInt 30 r.delta⟩ := rfl
@[simp] theorem commit_prevTs (r : FilterOut) (s : State) : (commit r s).prevTs = s.inputs.ts := rfl
@[simp] theorem commit_faultCnt (r : FilterOut) (s : State) : (commit r s).faultCnt = s.faultCnt := rfl
@[simp] theorem commit_livePrev (r : FilterOut) (s : State) : (commit r s).livePrev = s.livePrev := rfl
@[simp] theorem commit_stallCnt (r : FilterOut) (s : State) : (commit r s).stallCnt = s.stallCnt := rfl
@[simp] theorem commit_draws (r : FilterOut) (s : State) : (commit r s).draws = s.draws + filterDraws := rfl
@[simp] theorem commit_resp (r : FilterOut) (s : State) : (commit r s).resp = s.resp := rfl
@[simp] theorem commit_inbox (r : FilterOut) (s : State) : (commit r s).inbox = s.inbox := rfl

@[simp] theorem popInbox_cfg (l : List Event) (s : State) : (popInbox l s).cfg = s.cfg := rfl
@[simp] theorem popInbox_run (l : List Event) (s : State) : (popInbox l s).run = s.run := rfl
@[simp] theorem popInbox_biasLocked (l : List Event) (s : State) : (popInbox l s).biasLocked = s.biasLocked := rfl
@[simp] theorem popInbox_tsValid (l : List Event) (s : State) : (popInbox l s).tsValid = s.tsValid := rfl
@[simp] theorem popInbox_err (l : List Event) (s : State) : (popInbox l s).err = s.err := rfl
@[simp] theorem popInbox_haltCause (l : List Event) (s : State) : (popInbox l s).haltCause = s.haltCause := rfl
@[simp] theorem popInbox_inputs (l : List Event) (s : State) : (popInbox l s).inputs = s.inputs := rfl
@[simp] theorem popInbox_bias (l : List Event) (s : State) : (popInbox l s).bias = s.bias := rfl
@[simp] theorem popInbox_est (l : List Event) (s : State) : (popInbox l s).est = s.est := rfl
@[simp] theorem popInbox_prevTs (l : List Event) (s : State) : (popInbox l s).prevTs = s.prevTs := rfl
@[simp] theorem popInbox_faultCnt (l : List Event) (s : State) : (popInbox l s).faultCnt = s.faultCnt := rfl
@[simp] theorem popInbox_livePrev (l : List Event) (s : State) : (popInbox l s).livePrev = s.livePrev := rfl
@[simp] theorem popInbox_stallCnt (l : List Event) (s : State) : (popInbox l s).stallCnt = s.stallCnt := rfl
@[simp] theorem popInbox_draws (l : List Event) (s : State) : (popInbox l s).draws = s.draws := rfl
@[simp] theorem popInbox_resp (l : List Event) (s : State) : (popInbox l s).resp = s.resp := rfl
@[simp] theorem popInbox_inbox (l : List Event) (s : State) : (popInbox l s).inbox = l := rfl

@[simp] theorem offer_cfg (f : Frame) (s : State) : (offer f s).cfg = s.cfg := rfl
@[simp] theorem offer_run (f : Frame) (s : State) : (offer f s).run = s.run := rfl
@[simp] theorem offer_biasLocked (f : Frame) (s : State) : (offer f s).biasLocked = s.biasLocked := rfl
@[simp] theorem offer_tsValid (f : Frame) (s : State) : (offer f s).tsValid = s.tsValid := rfl
@[simp] theorem offer_err (f : Frame) (s : State) : (offer f s).err = s.err := rfl
@[simp] theorem offer_haltCause (f : Frame) (s : State) : (offer f s).haltCause = s.haltCause := rfl
@[simp] theorem offer_inputs (f : Frame) (s : State) : (offer f s).inputs = s.inputs := rfl
@[simp] theorem offer_bias (f : Frame) (s : State) : (offer f s).bias = s.bias := rfl
@[simp] theorem offer_est (f : Frame) (s : State) : (offer f s).est = s.est := rfl
@[simp] theorem offer_prevTs (f : Frame) (s : State) : (offer f s).prevTs = s.prevTs := rfl
@[simp] theorem offer_faultCnt (f : Frame) (s : State) : (offer f s).faultCnt = s.faultCnt := rfl
@[simp] theorem offer_livePrev (f : Frame) (s : State) : (offer f s).livePrev = s.livePrev := rfl
@[simp] theorem offer_stallCnt (f : Frame) (s : State) : (offer f s).stallCnt = s.stallCnt := rfl
@[simp] theorem offer_draws (f : Frame) (s : State) : (offer f s).draws = s.draws := rfl
@[simp] theorem offer_resp (f : Frame) (s : State) : (offer f s).resp = s.resp := rfl
@[simp] theorem offer_inbox (f : Frame) (s : State) : (offer f s).inbox = .port f :: s.inbox := rfl

@[simp] theorem halt_cfg (m : BitVec 10) (s : State) : (halt m s).cfg = s.cfg := by
  unfold halt; split <;> rfl
@[simp] theorem halt_run (m : BitVec 10) (s : State) : (halt m s).run = false := by
  unfold halt; split <;> simp_all
@[simp] theorem halt_biasLocked (m : BitVec 10) (s : State) : (halt m s).biasLocked = s.biasLocked := by
  unfold halt; split <;> rfl
@[simp] theorem halt_tsValid (m : BitVec 10) (s : State) : (halt m s).tsValid = s.tsValid := by
  unfold halt; split <;> rfl
@[simp] theorem halt_err (m : BitVec 10) (s : State) : (halt m s).err = s.err := by
  unfold halt; split <;> rfl
@[simp] theorem halt_haltCause (m : BitVec 10) (s : State) : (halt m s).haltCause = if s.run then m else s.haltCause := by
  unfold halt; split <;> rfl
@[simp] theorem halt_inputs (m : BitVec 10) (s : State) : (halt m s).inputs = s.inputs := by
  unfold halt; split <;> rfl
@[simp] theorem halt_bias (m : BitVec 10) (s : State) : (halt m s).bias = s.bias := by
  unfold halt; split <;> rfl
@[simp] theorem halt_est (m : BitVec 10) (s : State) : (halt m s).est = s.est := by
  unfold halt; split <;> rfl
@[simp] theorem halt_prevTs (m : BitVec 10) (s : State) : (halt m s).prevTs = s.prevTs := by
  unfold halt; split <;> rfl
@[simp] theorem halt_faultCnt (m : BitVec 10) (s : State) : (halt m s).faultCnt = s.faultCnt := by
  unfold halt; split <;> rfl
@[simp] theorem halt_livePrev (m : BitVec 10) (s : State) : (halt m s).livePrev = s.livePrev := by
  unfold halt; split <;> rfl
@[simp] theorem halt_stallCnt (m : BitVec 10) (s : State) : (halt m s).stallCnt = s.stallCnt := by
  unfold halt; split <;> rfl
@[simp] theorem halt_draws (m : BitVec 10) (s : State) : (halt m s).draws = s.draws := by
  unfold halt; split <;> rfl
@[simp] theorem halt_resp (m : BitVec 10) (s : State) : (halt m s).resp = s.resp := by
  unfold halt; split <;> rfl
@[simp] theorem halt_inbox (m : BitVec 10) (s : State) : (halt m s).inbox = s.inbox := by
  unfold halt; split <;> rfl

@[simp] theorem haltIf_cfg (m : BitVec 10) (s : State) : (haltIf m s).cfg = s.cfg := by
  unfold haltIf; split <;> simp
@[simp] theorem haltIf_run (m : BitVec 10) (s : State) : (haltIf m s).run = if m = 0#10 then s.run else false := by
  unfold haltIf; split <;> simp
@[simp] theorem haltIf_biasLocked (m : BitVec 10) (s : State) : (haltIf m s).biasLocked = s.biasLocked := by
  unfold haltIf; split <;> simp
@[simp] theorem haltIf_tsValid (m : BitVec 10) (s : State) : (haltIf m s).tsValid = s.tsValid := by
  unfold haltIf; split <;> simp
@[simp] theorem haltIf_err (m : BitVec 10) (s : State) : (haltIf m s).err = s.err := by
  unfold haltIf; split <;> simp
@[simp] theorem haltIf_haltCause (m : BitVec 10) (s : State) :
    (haltIf m s).haltCause = if m = 0#10 then s.haltCause else if s.run then m else s.haltCause := by
  unfold haltIf; split <;> simp
@[simp] theorem haltIf_inputs (m : BitVec 10) (s : State) : (haltIf m s).inputs = s.inputs := by
  unfold haltIf; split <;> simp
@[simp] theorem haltIf_bias (m : BitVec 10) (s : State) : (haltIf m s).bias = s.bias := by
  unfold haltIf; split <;> simp
@[simp] theorem haltIf_est (m : BitVec 10) (s : State) : (haltIf m s).est = s.est := by
  unfold haltIf; split <;> simp
@[simp] theorem haltIf_prevTs (m : BitVec 10) (s : State) : (haltIf m s).prevTs = s.prevTs := by
  unfold haltIf; split <;> simp
@[simp] theorem haltIf_faultCnt (m : BitVec 10) (s : State) : (haltIf m s).faultCnt = s.faultCnt := by
  unfold haltIf; split <;> simp
@[simp] theorem haltIf_livePrev (m : BitVec 10) (s : State) : (haltIf m s).livePrev = s.livePrev := by
  unfold haltIf; split <;> simp
@[simp] theorem haltIf_stallCnt (m : BitVec 10) (s : State) : (haltIf m s).stallCnt = s.stallCnt := by
  unfold haltIf; split <;> simp
@[simp] theorem haltIf_draws (m : BitVec 10) (s : State) : (haltIf m s).draws = s.draws := by
  unfold haltIf; split <;> simp
@[simp] theorem haltIf_resp (m : BitVec 10) (s : State) : (haltIf m s).resp = s.resp := by
  unfold haltIf; split <;> simp
@[simp] theorem haltIf_inbox (m : BitVec 10) (s : State) : (haltIf m s).inbox = s.inbox := by
  unfold haltIf; split <;> simp

/-- Storing a register changes the inputs and the biases only. -/
theorem storeReg_outside (r : Reg) (v : Word) (s : State) :
    ∃ i b, storeReg r v s = { s with inputs := i, bias := b } := by
  cases r <;> exact ⟨_, _, rfl⟩

@[simp] theorem storeReg_cfg (r : Reg) (v : Word) (s : State) : (storeReg r v s).cfg = s.cfg := by
  cases r <;> rfl
@[simp] theorem storeReg_run (r : Reg) (v : Word) (s : State) : (storeReg r v s).run = s.run := by
  cases r <;> rfl
@[simp] theorem storeReg_biasLocked (r : Reg) (v : Word) (s : State) : (storeReg r v s).biasLocked = s.biasLocked := by
  cases r <;> rfl
@[simp] theorem storeReg_tsValid (r : Reg) (v : Word) (s : State) : (storeReg r v s).tsValid = s.tsValid := by
  cases r <;> rfl
@[simp] theorem storeReg_err (r : Reg) (v : Word) (s : State) : (storeReg r v s).err = s.err := by
  cases r <;> rfl
@[simp] theorem storeReg_haltCause (r : Reg) (v : Word) (s : State) : (storeReg r v s).haltCause = s.haltCause := by
  cases r <;> rfl
@[simp] theorem storeReg_est (r : Reg) (v : Word) (s : State) : (storeReg r v s).est = s.est := by
  cases r <;> rfl
@[simp] theorem storeReg_prevTs (r : Reg) (v : Word) (s : State) : (storeReg r v s).prevTs = s.prevTs := by
  cases r <;> rfl
@[simp] theorem storeReg_faultCnt (r : Reg) (v : Word) (s : State) : (storeReg r v s).faultCnt = s.faultCnt := by
  cases r <;> rfl
@[simp] theorem storeReg_livePrev (r : Reg) (v : Word) (s : State) : (storeReg r v s).livePrev = s.livePrev := by
  cases r <;> rfl
@[simp] theorem storeReg_stallCnt (r : Reg) (v : Word) (s : State) : (storeReg r v s).stallCnt = s.stallCnt := by
  cases r <;> rfl
@[simp] theorem storeReg_draws (r : Reg) (v : Word) (s : State) : (storeReg r v s).draws = s.draws := by
  cases r <;> rfl
@[simp] theorem storeReg_resp (r : Reg) (v : Word) (s : State) : (storeReg r v s).resp = s.resp := by
  cases r <;> rfl
@[simp] theorem storeReg_inbox (r : Reg) (v : Word) (s : State) : (storeReg r v s).inbox = s.inbox := by
  cases r <;> rfl

end Sys2Proof.Machine
end

