-- ==== Sys2Proof/Laws/Ops.lean ====
section
/-! SUPPORT. For each shared operation, once, everything it can do: the latch, the two paths of UPDATE, the port and the
step. Later proofs cite these and do not unfold the operations. -/

namespace Sys2Proof.Machine

/-- R141: the latch moves once, and only from RUNNING. -/
theorem halt_cases (m : BitVec 10) (s : State) :
    (s.run = true ∧ halt m s = { s with run := false, haltCause := m }) ∨ (s.run = false ∧ halt m s = s) := by
  unfold halt
  cases s.run <;> simp

theorem halt_of_run {s : State} (m : BitVec 10) (h : s.run = true) :
    halt m s = { s with run := false, haltCause := m } := by simp [halt, h]

theorem halt_of_halted {s : State} (m : BitVec 10) (h : s.run = false) : halt m s = s := by simp [halt, h]

/-- The mask of a cause has that bit and no other. -/
theorem causeBit_getLsbD (c : HaltCause) (i : Nat) : (causeBit c).getLsbD i = decide (i = causePos c) := by
  by_cases h : i < 10
  · have : ∀ (c : HaltCause) (i : Fin 10), (causeBit c).getLsbD i.val = decide (i.val = causePos c) := by
      intro c
      cases c <;> decide
    exact this c ⟨i, h⟩
  · have hp : causePos c < 10 := by cases c <;> decide
    rw [BitVec.getLsbD_of_ge _ _ (by omega)]
    simp
    omega

theorem causeBit_ne_zero (c : HaltCause) : causeBit c ≠ 0#10 := by cases c <;> decide

theorem flag_getLsbD (b : Bool) (c : HaltCause) (i : Nat) :
    (flag b c).getLsbD i = (b && decide (i = causePos c)) := by
  cases b <;> simp [flag, causeBit_getLsbD]

/-- What the filter and the counters leave for the safety evaluation of a good UPDATE (R138). -/
theorem goodCommitted_fields (s : State) :
    (goodCommitted s).cfg = s.cfg ∧ (goodCommitted s).run = s.run ∧ (goodCommitted s).haltCause = s.haltCause
      ∧ (goodCommitted s).faultCnt = 0#8 ∧ (goodCommitted s).livePrev = s.inputs.live
      ∧ (goodCommitted s).stallCnt = (if s.inputs.live = s.livePrev then satInc s.stallCnt else 0#32) :=
  ⟨rfl, rfl, rfl, rfl, rfl, rfl⟩

/-- R138: the good path, field by field. -/
theorem goodPath_eq (s : State) :
    goodPath s =
      { s with
        run := if goodMask (filter s).gx (filter s).gy (filter s).gz (goodCommitted s) = 0#10 then s.run else false
        haltCause :=
          if goodMask (filter s).gx (filter s).gy (filter s).gz (goodCommitted s) = 0#10 then s.haltCause
          else if s.run then goodMask (filter s).gx (filter s).gy (filter s).gz (goodCommitted s) else s.haltCause
        err := 0x00#8
        est := (commit (filter s) s).est
        prevTs := s.inputs.ts
        faultCnt := 0#8
        livePrev := s.inputs.live
        stallCnt := if s.inputs.live = s.livePrev then satInc s.stallCnt else 0#32
        draws := s.draws + filterDraws } := by
  unfold goodPath
  generalize goodMask _ _ _ _ = m
  by_cases hm : m = 0#10
  · simp only [haltIf, hm, if_true]
    rfl
  · rcases halt_cases m (goodCommitted s) with ⟨hr, h⟩ | ⟨hr, h⟩
    · have hr' : s.run = true := by simpa [goodCommitted] using hr
      simp only [haltIf, hm, if_false, h, hr', if_true]
      rfl
    · have hr' : s.run = false := by simpa [goodCommitted] using hr
      simp only [haltIf, hm, if_false, h, hr', Bool.false_eq_true]
      rw [← hr']
      rfl

/-- R139: the fault path, field by field: the estimate is held. -/
theorem faultPath_eq (s : State) :
    faultPath s =
      { s with
        run := if faultMask (faultCounted s) = 0#10 then s.run else false
        haltCause :=
          if faultMask (faultCounted s) = 0#10 then s.haltCause
          else if s.run then faultMask (faultCounted s) else s.haltCause
        err := resultCode (faultCode s)
        faultCnt := satInc s.faultCnt
        livePrev := s.inputs.live
        stallCnt := if s.inputs.live = s.livePrev then satInc s.stallCnt else 0#32 } := by
  unfold faultPath
  generalize faultMask _ = m
  by_cases hm : m = 0#10
  · simp only [haltIf, hm, if_true]
    rfl
  · rcases halt_cases m (faultCounted s) with ⟨hr, h⟩ | ⟨hr, h⟩
    · have hr' : s.run = true := by simpa [faultCounted] using hr
      simp only [haltIf, hm, if_false, h, hr', if_true]
      rfl
    · have hr' : s.run = false := by simpa [faultCounted] using hr
      simp only [haltIf, hm, if_false, h, hr', Bool.false_eq_true]
      rw [← hr']
      rfl

/-- R159, R160: the five ways an UPDATE ends. -/
theorem execUpdate_cases {s t : State} (h : execUpdate s = .next t) :
    (s.run = false ∧ t = okayWrite (reject .halted s)) ∨
    (s.run = true ∧ s.biasLocked = false ∧ t = okayWrite (reject .notcal s)) ∨
    (s.run = true ∧ s.biasLocked = true ∧ s.tsValid = false ∧ t = okayWrite (reject .nots s)) ∨
    (s.run = true ∧ s.biasLocked = true ∧ s.tsValid = true ∧ sampleFaulted s = true ∧ t = okayWrite (faultPath s)) ∨
    (s.run = true ∧ s.biasLocked = true ∧ s.tsValid = true ∧ sampleFaulted s = false ∧ t = okayWrite (goodPath s)) := by
  unfold execUpdate at h
  cases hr : s.run <;> cases hb : s.biasLocked <;> cases ht : s.tsValid <;> cases hf : sampleFaulted s <;>
    simp only [hr, hb, ht, hf, if_true, if_false, Host.Outcome.next.injEq, Bool.true_eq_false, Bool.false_eq_true] at h <;>
    simp [← h]

/-- R157: the two ways a SYNC ends. -/
theorem execSync_cases {s t : State} (h : execSync s = .next t) :
    (s.cfg.nsPerS ≤ tsOf s ∧ t = okayWrite (reject .tsrange s)) ∨
    (tsOf s < s.cfg.nsPerS ∧ t = okayWrite (setErr .ok (latchTs s))) := by
  unfold execSync at h
  split at h
  · exact .inl ⟨by assumption, (by simpa using h.symm)⟩
  · exact .inr ⟨by omega, (by simpa using h.symm)⟩

/-- R61: the two ways a read ends; neither changes a register. -/
theorem execRd_cases {off : Offset} {width : Nat} {s t : State} (h : execRd off width s = .next t) :
    (target off width = none ∧ t = slverrRead s) ∨ (∃ r, target off width = some r ∧ t = okayRead (readReg s r) s) := by
  unfold execRd at h
  split at h
  · exact .inl ⟨by assumption, by simpa using h.symm⟩
  · exact .inr ⟨_, by assumption, by simpa using h.symm⟩

/-- R62, R63: the four ways a write ends. -/
theorem execWr_cases {off : Offset} {width : Nat} {v : Word} {s t : State} (h : execWr off width v s = .next t) :
    (t = slverrWrite s ∧
      (target off width = none ∨
        ∃ r, target off width = some r ∧ (regAccess r = .ro ∨ (regAccess r = .rwl ∧ s.biasLocked = true)))) ∨
    (target off width = some .cmd ∧ performCommand v s = .next t) ∨
    (∃ r, target off width = some r ∧ (regAccess r = .rw ∨ (regAccess r = .rwl ∧ s.biasLocked = false)) ∧
      t = okayWrite (storeReg r v s)) := by
  unfold execWr at h
  split at h
  · exact .inl ⟨by simpa using h.symm, .inl (by assumption)⟩
  · rename_i r hr
    unfold writeReg at h
    split at h
    · exact .inl ⟨by simpa using h.symm, .inr ⟨r, hr, .inl (by assumption)⟩⟩
    · have : r = .cmd := by
        rename_i ha
        cases r <;> simp_all [regAccess]
      subst this
      exact .inr (.inl ⟨hr, h⟩)
    · exact .inr (.inr ⟨r, hr, .inl (by assumption), by simpa using h.symm⟩)
    · split at h
      · exact .inl ⟨by simpa using h.symm, .inr ⟨r, hr, .inr ⟨by assumption, by assumption⟩⟩⟩
      · refine .inr (.inr ⟨r, hr, .inr ⟨by assumption, ?_⟩, by simpa using h.symm⟩)
        simpa using ‹¬ s.biasLocked = true›

/-- R155: a command word performs the command it selects, or is rejected. -/
theorem performCommand_cases {v : Word} {s t : State} (h : performCommand v s = .next t) :
    (∃ op, decodeCommand v = .ok op ∧ execOpcode op s = .next t) ∨
    (∃ e, decodeCommand v = .error e ∧ t = okayWrite (reject .illegal s)) := by
  unfold performCommand at h
  split at h
  · exact .inl ⟨_, by assumption, h⟩
  · exact .inr ⟨_, by assumption, by simpa using h.symm⟩

/-- A command selected by a word runs as the instruction of that name. -/
theorem execOpcode_eq_exec (op : Opcode) (s : State) : execOpcode op s = exec op.instr s := by
  cases op <;> rfl

/-- R72: what one step can be. -/
theorem step_cases {s t : State} (h : step s = .next t) :
    (s.inbox = [] ∧ t = s) ∨
    (∃ rest, s.inbox = .abortAsync :: rest ∧ t = halt (causeBit .abortAsync) (popInbox rest s)) ∨
    (∃ rest, s.inbox = .rst :: rest ∧ t = resetBlock (popInbox rest s)) ∨
    (∃ f rest i, s.inbox = .port f :: rest ∧ decode f = .ok i ∧ exec i (popInbox rest s) = .next t) ∨
    (∃ f rest e, s.inbox = .port f :: rest ∧ decode f = .error e ∧ t = answerUndecoded f (popInbox rest s)) := by
  unfold step at h
  split at h
  · exact .inl ⟨by assumption, by simpa using h.symm⟩
  · rename_i e rest he
    cases e with
    | abortAsync => exact .inr (.inl ⟨rest, he, by simpa [performEvent, abortEvent] using h.symm⟩)
    | rst => exact .inr (.inr (.inl ⟨rest, he, by simpa [performEvent] using h.symm⟩))
    | port f =>
      simp only [performEvent, performFrame] at h
      cases hd : decode f with
      | ok i => exact .inr (.inr (.inr (.inl ⟨f, rest, i, he, hd, by simpa [hd] using h⟩)))
      | error err => exact .inr (.inr (.inr (.inr ⟨f, rest, err, he, hd, by simpa [hd] using h.symm⟩)))

end Sys2Proof.Machine
end

