-- ==== Sys2Proof/Laws/PerInstr.lean ====
section
/-! SUPPORT. Statements made per instruction, one lemma per constructor of `Instr`. -/

namespace Sys2Proof.Laws.RowMatch

/-- The `match` of an instruction's row in spec/opcode_table.json. -/
def rowMatch : Instr → Nat
  | .rd _ _ => 0x000
  | .wr _ _ _ => 0x100
  | .nop => 0x0000000000000000
  | .sync => 0x0000000000000001
  | .update => 0x0000000000000002
  | .lock => 0x0000000000000003
  | .abort => 0x0000000000000004

/-- The `mask` of an instruction's row in spec/opcode_table.json. -/
def rowMask : Instr → Nat
  | .rd _ _ => 0x100
  | .wr _ _ _ => 0x100
  | _ => 0xFFFFFFFFFFFFFFFF

/-- The bits the table's rows speak of: {KIND, OFF} of a transaction, the whole of a command word (R81). -/
def frameBits : Frame → Nat
  | .t sel _ _ => sel.toNat
  | .c w => w.toNat

/-- What the encoder writes matches the instruction's row of the opcode table. -/
def Statement (i : Instr) : Prop := frameBits (encode i) &&& rowMask i = rowMatch i

theorem rd (off : Offset) (width : Nat) : Statement (.rd off width) := by
  have h : ∀ off : Offset, (0#1 ++ off).toNat &&& 0x100 = 0x000 := by decide
  exact h off

theorem wr (off : Offset) (width : Nat) (data : Word) : Statement (.wr off width data) := by
  have h : ∀ off : Offset, (1#1 ++ off).toNat &&& 0x100 = 0x100 := by decide
  exact h off

theorem nop : Statement .nop := rfl
theorem sync : Statement .sync := rfl
theorem update : Statement .update := rfl
theorem lock : Statement .lock := rfl
theorem abort : Statement .abort := rfl

end Sys2Proof.Laws.RowMatch
end

