-- ==== Sys2Proof/Tests/Slice0.lean ====
section
/-! SUPPORT. Tests: the values come from spec/95_test_vectors.md (named by its section) or from a rule, never from a run of
the model. The `witness_` theorems show, for each statement with hypotheses, concrete data that meet all of them. -/

namespace Sys2Proof.Machine

/-! ## Helpers -/

/-- "Booted" (95_test_vectors.md): reset, then LOCK, TS 0, SYNC, and the accelerometer level. -/
def booted : State :=
  { State.reset with biasLocked := true, tsValid := true, inputs := { sampleAz := 0xC000#16 }, resp := some ⟨.okay, none⟩ }

/-- Booted with the next timestamp written. -/
def bootedAt (ts : BitVec 30) : State := { booted with inputs := { booted.inputs with ts := ts } }

/-- The state after an instruction. -/
def after (i : Instr) (s : State) : State := (nextOf (exec i s)).getD s

/-- Every instruction completes, in `after`. -/
theorem exec_after (i : Instr) (s : State) : exec i s = .next (after i s) := by
  cases h : exec i s with
  | next t => simp [after, nextOf, h]
  | fault r => exact nomatch r
  | refused r =>
    exfalso
    cases i with
    | rd off w => simp only [exec, execRd] at h; split at h <;> cases h
    | wr off w v =>
      simp only [exec, execWr] at h
      split at h
      · cases h
      · simp only [writeReg, performCommand, execOpcode, execNop, execSync, execUpdate, execLock, execAbort] at h
        repeat' split at h
        all_goals cases h
    | nop => cases h
    | sync => simp only [exec, execSync] at h; split at h <;> cases h
    | update =>
      simp only [exec, execUpdate] at h
      repeat' split at h
      all_goals cases h
    | lock => cases h
    | abort => cases h

/-! ## Well-formedness and decoding -/

/-- A read of no bytes is ill formed. -/
theorem test_wf_refuses_rd_of_no_bytes : (Instr.rd 0x08#8 0).WellFormed = false := by decide
/-- A write of no bytes is ill formed. -/
theorem test_wf_refuses_wr_of_no_bytes : (Instr.wr 0x20#8 0 0#64).WellFormed = false := by decide

/-- R81, row RD of the table: KIND 0, OFF 0x08. -/
theorem test_decode_rd : decode (.t 0b000001000#9 8 0xFFFFFFFFFFFFFFFF#64) = .ok (.rd 0x08#8 8) := by decide
/-- R81, row WR of the table: KIND 1, OFF 0x70; L3 P4 `WRF BIAS_GX, 1.0`. -/
theorem test_decode_wr : decode (.t 0b101110000#9 8 0x3FF0000000000000#64) = .ok (.wr 0x70#8 8 0x3FF0000000000000#64) := by
  decide
/-- R83, opcode 0x00. -/
theorem test_decode_nop : decode (.c 0x0000000000000000#64) = .ok .nop := by decide
/-- R83, opcode 0x01. -/
theorem test_decode_sync : decode (.c 0x0000000000000001#64) = .ok .sync := by decide
/-- R83, opcode 0x02. -/
theorem test_decode_update : decode (.c 0x0000000000000002#64) = .ok .update := by decide
/-- R83, opcode 0x03. -/
theorem test_decode_lock : decode (.c 0x0000000000000003#64) = .ok .lock := by decide
/-- R83, opcode 0x04. -/
theorem test_decode_abort : decode (.c 0x0000000000000004#64) = .ok .abort := by decide
/-- L2.9: the illegal words 0x5, 0xFF, 0x105 and 0x8000000000000002. -/
theorem test_decode_refuses_illegal :
    decode (.c 0x5#64) = .error .reservedOpcode ∧ decode (.c 0xFF#64) = .error .reservedOpcode ∧
    decode (.c 0x105#64) = .error .reservedBits ∧ decode (.c 0x8000000000000002#64) = .error .reservedBits := by decide
/-- The opcode table's rows, as the host gives them. -/
theorem test_table_words :
    decodeTableWord 16 0x008 = some (.rd 0x08#8 8) ∧ decodeTableWord 16 0x1A0 = some (.wr 0xA0#8 8 0#64) ∧
    decodeTableWord 64 0 = some .nop ∧ decodeTableWord 64 1 = some .sync ∧ decodeTableWord 64 2 = some .update ∧
    decodeTableWord 64 3 = some .lock ∧ decodeTableWord 64 4 = some .abort ∧ decodeTableWord 64 5 = none := by decide

/-! ## Arithmetic (L2.1 to L2.6) -/

/-- R7, R11: ONE_MINUS_ALPHA is 1.0 -f ALPHA, and NS_PER_S converts to its binary64 pattern. -/
theorem test_parameters :
    fsub 0 0x3FF0000000000000#64 0x3F947AE147AE147B#64 = 0x3FEF5C28F5C28F5C#64 ∧
    f64OfInt 1000000000 = 0x41CDCD6500000000#64 := by decide +kernel

/-- L2.1. -/
theorem test_gyro_rates :
    gyroRate .defaults 0 0x0000#16 = 0#64 ∧ gyroRate .defaults 0 0xFFFF#16 = 0xBF8F400000000000#64 ∧
    gyroRate .defaults 0 0x7FFF#16 = 0x407F3FC180000000#64 ∧ gyroRate .defaults 0 0x8000#16 = 0xC07F400000000000#64 ∧
    gyroRate .defaults 0 0x4CCD#16 = 0x4072C00C80000000#64 := by decide +kernel

/-- L2.2: rates, then angles. -/
theorem test_debias :
    debiasRate 0 0x4072C00C80000000#64 0x3FF8000000000000#64 = 0x4072A80C80000000#64 ∧
    debiasRate 0 0#64 0x7FF0000000000000#64 = 0xFFF0000000000000#64 ∧
    debiasRate 0 0x3F8F400000000000#64 0x3F8F400000000000#64 = 0#64 ∧
    debiasAngle 0 0x4066800000000000#64 0xC024000000000000#64 = 0x4067C00000000000#64 ∧
    debiasAngle 0 0#64 0x8000000000000000#64 = 0#64 := by decide +kernel

/-- L2.2: a NaN bias gives a NaN, whichever rate. -/
theorem test_debias_nan (g : F64) : isNaN (debiasRate 0 g 0x7FF8000000000000#64) = true := by
  have h : isNaN (negf 0x7FF8000000000000#64) = true := by decide
  simp [debiasRate, fsub, fadd, h]

/-- L2.3. -/
theorem test_delta :
    dtDelta .defaults 500000 999000000 = 1500000 ∧ dtDelta .defaults 123456789 123456789 = 1000000000 ∧
    dtDelta .defaults 0 1 = 999999999 ∧ dtSeconds .defaults 0 1500000 = 0x3F589374BC6A7EFA#64 ∧
    dtSeconds .defaults 0 1 = 0x3E112E0BE826D695#64 ∧ dtSeconds .defaults 0 999999999 = 0x3FEFFFFFFF768FA1#64 := by
  decide +kernel

/-- L2.4: the axes, the diagonal and the rows off it. -/
theorem test_inclination :
    incl .defaults 0 0 0 = 0#64 ∧ incl .defaults 0 0 16384 = 0x4066800000000000#64 ∧
    incl .defaults 0 (-16384) 0 = 0xC056800000000000#64 ∧ incl .defaults 0 1 1 = 0x4060E00000000000#64 ∧
    incl .defaults 0 8192 (-14189) = 0x403DFFFB70E8E465#64 ∧ incl .defaults 0 1 (-16384) = 0x3F6CA5DC19CAF80D#64 ∧
    incl .defaults 0 (-1) 16384 = 0xC0667FE35A23E635#64 ∧ incl .defaults 0 (-32768) 32767 = 0xC060DFF8D681CFEB#64 := by
  decide +kernel

/-- L2.4: the radians of two rows, and that rounding them was certain. -/
theorem test_atan2 :
    refAtan2 0 (f64OfInt 100) (f64OfInt 16384) = 0x3F78FFEBA7C877DC#64 ∧
    refAtan2 0 (f64OfInt (-1)) (f64OfInt (-16384)) = 0xC00921DB54442DC3#64 ∧
    angleCertified (unitsOf (f64OfInt 100)) (unitsOf (f64OfInt 16384)) false = true := by decide +kernel

/-- L2.5, R115. -/
theorem test_fuse_multiplicative :
    fuse .defaults 0 0x403E000000000000#64 0x3FF0000000000000#64 0x4024000000000000#64 = 0x4024CCCCCCCCCCCD#64 ∧
    fuse .defaults 0 0x403DFFFB70E8E465#64 0x3FDFE00000000000#64 0x3FE3333048432188#64 = 0x3FEC92391921E58C#64 ∧
    fuse .defaults 0 0x40A1F80000000000#64 0#64 0#64 = 0x4047000000000000#64 := by decide +kernel

/-- L2.5, R116. -/
theorem test_fuse_additive :
    fuse { Config.defaults with fusion := .additive } 0 0x403E000000000000#64 0x3FF0000000000000#64 0x4024000000000000#64
      = 0x4026C28F5C28F5C2#64 ∧
    fuse { Config.defaults with fusion := .additive } 0 0x4046800000000000#64 0#64 0x4014000000000000#64
      = 0x4017333333333334#64 := by decide +kernel

/-- L2.6: both limits are inside, the next number is outside, -0.0 is inside, infinity is outside. -/
theorem test_comparator :
    exceeds 0x4046800000000000#64 0x4046800000000000#64 = false ∧
    exceeds 0x4046800000000001#64 0x4046800000000000#64 = true ∧
    exceeds 0xC046800000000000#64 0x4046800000000000#64 = false ∧
    exceeds 0xC046800000000001#64 0x4046800000000000#64 = true ∧
    exceeds 0x8000000000000000#64 0x4046800000000000#64 = false ∧
    exceeds 0xFFF0000000000000#64 0x4046800000000000#64 = true ∧
    exceeds 0x7FF8000000000000#64 0x4046800000000000#64 = true := by decide

/-! ## One step of each instruction (L2.6 to L2.11, L3) -/

/-- L2.10: read 0x08 after reset. -/
theorem test_rd_status : (after (.rd 0x08#8 8) State.reset).resp = some ⟨.okay, some 0x1#64⟩ := by decide
/-- L2.10: read 0x04 is misaligned. -/
theorem test_rd_misaligned : (after (.rd 0x04#8 8) State.reset).resp = some ⟨.slverr, some 0#64⟩ := by decide
/-- L2.10: write 0x20, 0xFFFFFFFFFFFF8000. -/
theorem test_wr_sample :
    (after (.wr 0x20#8 8 0xFFFFFFFFFFFF8000#64) State.reset).inputs.sampleAx = 0x8000#16 := by decide
/-- L2.10: write 0x70 after LOCK; no state changes but the response. -/
theorem test_wr_locked_bias :
    after (.wr 0x70#8 8 0x3FF0000000000000#64) booted = { booted with resp := some ⟨.slverr, none⟩ } := by decide
/-- R156's example. -/
theorem test_nop : (after .nop { State.reset with err := 0x02#8 }).err = 0x00#8 := by decide
/-- L2.9: SYNC at TS = 123,000,000: PREV_TS and STATUS = 0x5. -/
theorem test_sync :
    (after .sync { State.reset with inputs := { ts := 123000000#30 } }).prevTs = 123000000#30 ∧
    readReg (after .sync { State.reset with inputs := { ts := 123000000#30 } }) .status = 0x5#64 := by decide
/-- L2.9: SYNC at TS = 1,000,000,000. -/
theorem test_sync_out_of_range :
    (after .sync { State.reset with inputs := { ts := 1000000000#30 } }).err = 0x05#8 ∧
    (after .sync { State.reset with inputs := { ts := 1000000000#30 } }).tsValid = false := by decide
/-- L3 P1, the second cycle: the fused roll and its telemetry. -/
theorem test_update_tilt :
    (after .update
      { booted with
        prevTs := 10000000#30
        inputs := { sampleAy := 0x2000#16, sampleAz := 0xC893#16, sampleGy := 0x0040#16, ts := 20000000#30 } }).est =
      { roll := 0x3FE3333048432188#64, accRoll := 0x403DFFFB70E8E465#64, gyroRollRate := 0x3FEF400000000000#64
        dtNs := 10000000#30 } := by decide +kernel
/-- L1.4, L3 P2: roll = 46 halts with the cause ROLL and ERR = 0x00. -/
theorem test_update_roll_halts :
    let t := after .update { bootedAt 10000000#30 with bias := { roll := 0xC0A1F80000000000#64 } }
    t.run = false ∧ t.haltCause = 0x008#10 ∧ t.err = 0x00#8 ∧ t.est.roll = 0x4047000000000000#64 := by decide +kernel
/-- L2.9: LOCK after reset: STATUS = 0x3. -/
theorem test_lock : readReg (after .lock State.reset) .status = 0x3#64 := by decide
/-- L2.9: ABORT after reset: STATUS = 0x0, HALT_CAUSE = 0x001, `halt_o` = 1. -/
theorem test_abort :
    readReg (after .abort State.reset) .status = 0x0#64 ∧ (after .abort State.reset).haltCause = 0x001#10 ∧
    (after .abort State.reset).haltO = true := by decide
/-- L2.11: `abort_async` on the booted block: STATUS = 0x6, HALT_CAUSE = 0x002; then `rst`: STATUS = 0x1. -/
theorem test_events :
    readReg (abortEvent booted) .status = 0x6#64 ∧ (abortEvent booted).haltCause = 0x002#10 ∧
    readReg (resetBlock (abortEvent booted)) .status = 0x1#64 ∧ (resetBlock (abortEvent booted)).haltO = false := by decide
/-- R87: an illegal word written to CMD. -/
theorem test_illegal_word : (after (.wr 0x00#8 8 0x105#64) State.reset).err = 0x01#8 := by decide

/-! ## Witnesses of the hypotheses of the statements -/

/-- DecodeOfEncode: a transaction of one byte, the fewest. -/
theorem witness_DecodeOfEncode : (Instr.wr 0xF8#8 1 0#64).WellFormed = true ∧ Instr.abort.WellFormed = true := by decide
/-- EncodeOfDecode: a read carrying DATA, and a write. -/
theorem witness_EncodeOfDecode :
    decode (.t 0x0FF#9 1 5#64) = .ok (.rd 0xFF#8 1) ∧ decode (.t 0x100#9 8 5#64) = .ok (.wr 0x00#8 8 5#64) := by decide
/-- StopCharacterHalts: an UPDATE on the port that halts a RUNNING block with the STOP_CHAR bit (L1.4, here on the fault
path, which evaluates the same condition). -/
theorem witness_StopCharacterHalts_step :
    let s : State := { booted with cfg := { stopToken := some 0x71#8 }, inputs := { sfault := 1#1, cmdchar := 0x171#9 } }
    s.run = true ∧ (step { s with inbox := [.port (.c 2#64)] } = .next (after .update s)) ∧
    (after .update s).run = false ∧ (after .update s).haltCause.getLsbD 2 = true := by
  refine ⟨rfl, ?_, by decide, by decide⟩
  exact exec_after .update
    { booted with cfg := { stopToken := some 0x71#8 }, inputs := { sfault := 1#1, cmdchar := 0x171#9 } }
/-- HostLinesAreSingleTransactions: the least denominator of WRF. -/
theorem witness_HostLinesAreSingleTransactions : 0 < 1 := by decide
/-- StepRunsDecodedInstruction. -/
theorem witness_StepRunsDecodedInstruction :
    ({ State.reset with inbox := [.port (.c 3#64), .rst] } : State).inbox = .port (.c 3#64) :: [.rst] ∧
    decode (.c 3#64) = .ok .lock := by decide
/-- TableWordRunsNext: the largest word of each format that decodes. -/
theorem witness_TableWordRunsNext :
    decodeTableWord 16 0x1FF = some (.wr 0xFF#8 8 0#64) ∧ decodeTableWord 64 4 = some .abort := by decide
/-- IdleStepChangesNothing. -/
theorem witness_IdleStepChangesNothing : State.reset.inbox = [] := rfl
/-- RefusedExactlyByTheListedConditions: each ground for a refusal, and offsets and widths on both sides of it. -/
theorem witness_RefusedExactlyByTheListedConditions :
    (0xF7#8 : Offset).toNat % 8 ≠ 0 ∧ (0xF0#8 : Offset).toNat % 8 = 0 ∧ (0xF0#8 : Offset) ≠ 0xF8#8 ∧
    regAt 0xF0#8 = some .stallCnt ∧ regAccess .stallCnt = .ro ∧
    regAt 0x98#8 = some .biasAz ∧ regAccess .biasAz = .rwl ∧ booted.biasLocked = true ∧ State.reset.biasLocked = false ∧
    regAt 0x68#8 = some .live ∧ regAccess .live = .rw ∧ (7 : Nat) ≠ 8 ∧ (9 : Nat) ≠ 8 := by decide
/-- RefusedExactlyByTheListedConditions: a write outside every ground, and one inside the last. -/
theorem witness_RefusedExactlyByTheListedConditions_write :
    ¬ ((0x98#8 : Offset).toNat % 8 ≠ 0 ∨ (0x98#8 : Offset) = 0xF8#8 ∨ (8 : Nat) ≠ 8 ∨
        ∃ r, regAt 0x98#8 = some r ∧ (regAccess r = .ro ∨ (regAccess r = .rwl ∧ State.reset.biasLocked = true))) ∧
    ∃ r, regAt 0x98#8 = some r ∧ (regAccess r = .ro ∨ (regAccess r = .rwl ∧ booted.biasLocked = true)) := by
  have h : regAt 0x98#8 = some .biasAz := by decide
  constructor
  · rintro (h1 | h1 | h1 | ⟨r, hr, h1⟩)
    · exact h1 (by decide)
    · exact absurd h1 (by decide)
    · exact h1 rfl
    · rw [h] at hr; cases hr; exact absurd h1 (by decide)
  · exact ⟨.biasAz, h, by decide⟩
/-- WriteStoresAndFrames: an input register, and a bias register before LOCK. -/
theorem witness_WriteStoresAndFrames :
    regAccess .live = .rw ∧ regAccess .biasGx = .rwl ∧ State.reset.biasLocked = false := by decide
/-- IllegalWordOnlySetsErr: the first reserved opcode, the last, and bit 8 and bit 63 above an assigned one. -/
theorem witness_IllegalWordOnlySetsErr :
    0x05 ≤ ((0x05#64).extractLsb' 0 8).toNat ∧ 0x05 ≤ ((0xFF#64).extractLsb' 0 8).toNat ∧
    (0x102#64).extractLsb' 8 56 ≠ 0#56 ∧ (0x8000000000000002#64).extractLsb' 8 56 ≠ 0#56 := by decide
/-- StatusBitsAndHaltOutput: the first reserved bit. -/
theorem witness_StatusBitsAndHaltOutput : (3 : Nat) ≤ 3 := by decide
/-- IdempotentTransactions: ABORT, and a write that is not one to CMD. -/
theorem witness_IdempotentTransactions :
    Instr.abort ≠ .update ∧ (∀ width v, Instr.abort ≠ .wr (regOffset .cmd) width v) ∧
    exec .abort booted = .next (after .abort booted) ∧
    Instr.wr 0xF8#8 8 1#64 ≠ .update ∧ (∀ width v, Instr.wr 0xF8#8 8 1#64 ≠ .wr (regOffset .cmd) width v) := by
  refine ⟨by decide, fun _ _ h => (nomatch h), exec_after _ _, by decide, fun _ _ h => ?_⟩
  have h8 : (0xF8#8 : Offset) = regOffset .cmd := by injection h
  exact absurd h8 (by decide)
/-- SyncLatchesTimestamp: the last timestamp in range and the first out of it. -/
theorem witness_SyncLatchesTimestamp :
    (bootedAt 999999999#30).inputs.ts.toNat < (bootedAt 999999999#30).cfg.nsPerS ∧
    (bootedAt 1000000000#30).cfg.nsPerS ≤ (bootedAt 1000000000#30).inputs.ts.toNat := by decide
/-- SyncRepeatsAndNeverClears: a rejected SYNC on a block with a timestamp. -/
theorem witness_SyncRepeatsAndNeverClears :
    exec .sync (bootedAt 1000000000#30) = .next (after .sync (bootedAt 1000000000#30)) ∧
    (bootedAt 1000000000#30).tsValid = true ∧
    (bootedAt 1000000000#30).cfg.nsPerS ≤ (bootedAt 1000000000#30).inputs.ts.toNat :=
  ⟨exec_after _ _, by decide⟩
/-- AbortHaltsOnce: both modes. -/
theorem witness_AbortHaltsOnce : booted.run = true ∧ (abortEvent booted).run = false := by decide
/-- UpdateAdmissionOrder: each of the three refusals. -/
theorem witness_UpdateAdmissionOrder :
    (abortEvent State.reset).run = false ∧ (State.reset.run = true ∧ State.reset.biasLocked = false) ∧
    ((after .lock State.reset).run = true ∧ (after .lock State.reset).biasLocked = true ∧
      (after .lock State.reset).tsValid = false) := by decide
/-- The admitted good samples at both ends of the range of TS, in both fusion forms. -/
theorem witness_GoodUpdateCommitsTheFilter :
    (Admitted (bootedAt 0#30) ∧ SampleGood (bootedAt 0#30) ∧ (bootedAt 0#30).cfg.fusion = .multiplicative) ∧
    (Admitted { bootedAt 999999999#30 with cfg := { fusion := .additive } } ∧
      SampleGood { bootedAt 999999999#30 with cfg := { fusion := .additive } } ∧
      ({ bootedAt 999999999#30 with cfg := { fusion := .additive } } : State).cfg.fusion = .additive) := by
  refine ⟨⟨⟨rfl, rfl, rfl⟩, ⟨rfl, by decide⟩, rfl⟩, ⟨⟨rfl, rfl, rfl⟩, ⟨rfl, by decide⟩, rfl⟩⟩
/-- GoodUpdateHaltsOnEveryCondition: an UPDATE that keeps RUNNING (raw 19660) and one that halts (raw 19661). -/
theorem witness_GoodUpdateHaltsOnEveryCondition :
    (Admitted (bootedAt 1000000#30) ∧ SampleGood (bootedAt 1000000#30)) ∧
    (after .update { booted with inputs := { sampleAz := 0xC000#16, sampleGx := 19660#16, ts := 1000000#30 } }).run = true ∧
    (after .update { booted with inputs := { sampleAz := 0xC000#16, sampleGx := 19661#16, ts := 1000000#30 } }).run = false ∧
    (after .update { booted with inputs := { sampleAz := 0xC000#16, sampleGx := 19661#16, ts := 1000000#30 } }).haltCause =
      0x020#10 := by
  refine ⟨⟨⟨rfl, rfl, rfl⟩, ⟨rfl, by decide⟩⟩, ?_⟩
  decide +kernel
/-- FaultedUpdateHoldsTheEstimate: a transport fault, and the first timestamp out of range (L2.8); the second fault halts. -/
theorem witness_FaultedUpdateHoldsTheEstimate :
    Admitted { bootedAt 1#30 with inputs := { sfault := 1#1 } } ∧
    (after .update { bootedAt 1#30 with inputs := { sfault := 1#1 } }).err = 0x06#8 ∧
    (after .update { bootedAt 1#30 with inputs := { sfault := 1#1 } }).run = true ∧
    (after .update { bootedAt 1#30 with inputs := { sfault := 1#1 }, faultCnt := 1#8 }).run = false ∧
    Admitted (bootedAt 1000000000#30) ∧ (bootedAt 1000000000#30).inputs.sfault = 0#1 ∧
    (bootedAt 1000000000#30).cfg.nsPerS ≤ (bootedAt 1000000000#30).inputs.ts.toNat := by
  refine ⟨⟨rfl, rfl, rfl⟩, ?_, ?_, ?_, ⟨rfl, rfl, rfl⟩, ?_⟩ <;> decide +kernel
/-- UpdateCountsLiveness: L2.7, the third UPDATE with LIVE unchanged halts; the second does not, and a halt of it by the
stop character has another cause. -/
theorem witness_UpdateCountsLiveness_halt :
    let c : Config := { livenessTimeout := 3#32, stopToken := some 0x71#8 }
    let s : State := { booted with cfg := c, inputs := { sfault := 1#1 }, stallCnt := 2#32 }
    let q : State := { booted with cfg := c, inputs := { sfault := 1#1, cmdchar := 0x171#9 }, stallCnt := 1#32 }
    (Admitted s ∧ 0 < s.cfg.livenessTimeout.toNat ∧ s.cfg.livenessTimeout.toNat ≤ (after .update s).stallCnt.toNat) ∧
    Admitted q ∧ (after .update q).run = false ∧
    ¬ (0 < q.cfg.livenessTimeout.toNat ∧ q.cfg.livenessTimeout.toNat ≤ (after .update q).stallCnt.toNat) := by
  refine ⟨⟨⟨rfl, rfl, rfl⟩, by decide, by decide⟩, ⟨rfl, rfl, rfl⟩, by decide, by decide⟩
/-- UpdateCountsLiveness: LIVE unchanged, with the counter at its top, and LIVE changed. -/
theorem witness_UpdateCountsLiveness :
    Admitted { booted with stallCnt := 0xFFFFFFFF#32 } ∧ booted.inputs.live = booted.livePrev ∧
    Admitted { booted with livePrev := 1#32 } ∧
    ({ booted with livePrev := 1#32 } : State).inputs.live ≠ ({ booted with livePrev := 1#32 } : State).livePrev := by
  refine ⟨⟨rfl, rfl, rfl⟩, rfl, ⟨rfl, rfl, rfl⟩, by decide⟩
/-- CommandFrames: every command. -/
theorem witness_CommandFrames (op : Opcode) : exec op.instr booted = .next (after op.instr booted) := exec_after _ _
/-- AsyncAbortHalts: in both modes. -/
theorem witness_AsyncAbortHalts :
    ({ booted with inbox := [.abortAsync] } : State).inbox = .abortAsync :: [] ∧
    ({ booted with inbox := [.abortAsync] } : State).run = true ∧
    ({ abortEvent booted with inbox := [.abortAsync] } : State).inbox = .abortAsync :: [] ∧
    ({ abortEvent booted with inbox := [.abortAsync] } : State).run = false := by decide
/-- ResetRestoresEveryRegister: from HALTED. -/
theorem witness_ResetRestoresEveryRegister :
    ({ abortEvent booted with inbox := [.rst, .abortAsync] } : State).inbox = .rst :: [.abortAsync] := rfl

/-- A halted block that the host keeps driving: an UPDATE, an ABORT and an asynchronous abort are to come. -/
def haltedBusy : State :=
  { abortEvent booted with inbox := [.port (.c 2#64), .abortAsync, .port (.c 4#64)] }

/-- HaltedStaysHalted and HaltedForeverWithoutReset: the halted block. -/
theorem witness_HaltedStaysHalted :
    haltedBusy.run = false ∧ (∃ t, step haltedBusy = .next t) ∧ (∀ rest, haltedBusy.inbox ≠ .rst :: rest) := by
  refine ⟨rfl, ⟨_, rfl⟩, fun _ h => ?_⟩
  cases h
/-- HaltedStaysHalted: the halted block with an `rst` to come. -/
theorem witness_HaltedStaysHalted_rst :
    ∃ t, ({ abortEvent booted with inbox := [.rst] } : State).run = false ∧
      step { abortEvent booted with inbox := [.rst] } = .next t ∧
      ∃ rest, ({ abortEvent booted with inbox := [.rst] } : State).inbox = .rst :: rest := ⟨_, rfl, rfl, [], rfl⟩
/-- HaltedForeverWithoutReset: three steps. -/
theorem witness_HaltedForeverWithoutReset :
    haltedBusy.run = false ∧ resetFree haltedBusy.inbox = true ∧ ∃ t, Host.Core.run Sys2Proof.core 3 haltedBusy = .next t :=
  ⟨rfl, by decide, _, rfl⟩
/-- OnlyListedSourcesHalt: an ABORT on the port. -/
theorem witness_OnlyListedSourcesHalt :
    ∃ t, ({ booted with inbox := [.port (.c 4#64)] } : State).run = true ∧
      step { booted with inbox := [.port (.c 4#64)] } = .next t ∧ t.run = false := ⟨_, rfl, rfl, rfl⟩
/-- UpdateAfterHaltRefused: an asynchronous abort, then a NOP, before the next UPDATE (L2.11). -/
theorem witness_UpdateAfterHaltRefused :
    ∃ t u, booted.run = true ∧ step { booted with inbox := [.abortAsync, .port (.c 0#64)] } = .next t ∧ t.run = false ∧
      resetFree t.inbox = true ∧ Host.Core.run Sys2Proof.core 1 t = .next u := ⟨_, _, rfl, rfl, rfl, rfl, rfl⟩
/-- EstimateMovesOnlyInGoodUpdate: a good UPDATE on the port moves the estimate, and so does `rst`. -/
theorem witness_EstimateMovesOnlyInGoodUpdate :
    (∃ t, step { bootedAt 1#30 with inbox := [.port (.c 2#64)] } = .next t ∧
      t.est ≠ ({ bootedAt 1#30 with inbox := [.port (.c 2#64)] } : State).est) ∧
    ∃ t, step { booted with est := { dtNs := 1#30 }, inbox := [.rst] } = .next t ∧
      t.est ≠ ({ booted with est := { dtNs := 1#30 }, inbox := [.rst] } : State).est := by
  constructor
  · refine ⟨after .update (bootedAt 1#30), ?_, ?_⟩
    · show exec .update (bootedAt 1#30) = _
      exact exec_after _ _
    · decide +kernel
  · refine ⟨resetBlock { booted with est := { dtNs := 1#30 } }, rfl, by decide⟩
/-- InputsMoveOnlyByHostWrites: a write of TS moves an input, a write of BIAS_GX before LOCK a bias. -/
theorem witness_InputsMoveOnlyByHostWrites :
    (∃ t, step { booted with inbox := [.port (.t 0x150#9 8 7#64)] } = .next t ∧
      t.inputs ≠ ({ booted with inbox := [.port (.t 0x150#9 8 7#64)] } : State).inputs) ∧
    (∃ t, step { State.reset with inbox := [.port (.t 0x170#9 8 7#64)] } = .next t ∧
      t.bias ≠ ({ State.reset with inbox := [.port (.t 0x170#9 8 7#64)] } : State).bias) ∧
    (∀ rest, ({ booted with inbox := [.port (.t 0x150#9 8 7#64)] } : State).inbox ≠ .rst :: rest) := by
  refine ⟨⟨_, rfl, by decide⟩, ⟨_, rfl, by decide⟩, fun _ h => ?_⟩
  cases h
/-- BiasImmutableAfterLock: a write of a bias and a LOCK to come on a locked block. -/
theorem witness_BiasImmutableAfterLock :
    ∃ t, ({ booted with inbox := [.port (.t 0x170#9 8 7#64), .port (.c 3#64)] } : State).biasLocked = true ∧
      resetFree ({ booted with inbox := [.port (.t 0x170#9 8 7#64), .port (.c 3#64)] } : State).inbox = true ∧
      Host.Core.run Sys2Proof.core 2 { booted with inbox := [.port (.t 0x170#9 8 7#64), .port (.c 3#64)] } = .next t :=
  ⟨_, rfl, by decide, rfl⟩
/-- UnusedBiasesAffectNothing: UPDATE, and a read of the neighbouring bias. -/
theorem witness_UnusedBiasesAffectNothing :
    (∀ r width, (r = .biasGz ∨ r = .biasAz) →
      Instr.update ≠ .rd (regOffset r) width ∧ ∀ v, Instr.update ≠ .wr (regOffset r) width v) ∧
    exec .update (bootedAt 1#30) = .next (after .update (bootedAt 1#30)) := by
  exact ⟨fun _ _ _ => ⟨fun h => (nomatch h), fun _ h => (nomatch h)⟩, exec_after _ _⟩
/-- FaultedUpdateIgnoresTheSample: a transport fault, and the first timestamp out of range. -/
theorem witness_FaultedUpdateIgnoresTheSample :
    (Admitted { booted with inputs := { sfault := 1#1 } } ∧
      ({ booted with inputs := { sfault := 1#1 } } : State).inputs.sfault = 1#1 ∧
      exec .update { booted with inputs := { sfault := 1#1 } } =
        .next (after .update { booted with inputs := { sfault := 1#1 } })) ∧
    Admitted (bootedAt 1000000000#30) ∧
    (bootedAt 1000000000#30).cfg.nsPerS ≤ (bootedAt 1000000000#30).inputs.ts.toNat ∧
    exec .update (bootedAt 1000000000#30) = .next (after .update (bootedAt 1000000000#30)) :=
  ⟨⟨⟨rfl, rfl, rfl⟩, rfl, exec_after _ _⟩, ⟨rfl, rfl, rfl⟩, by decide, exec_after _ _⟩
/-- StopCharacterHalts: the token delivered (L1.4), and the token without VALID and another
character (L2.6), for STOP_TOKEN = 0x71. -/
theorem witness_StopCharacterHalts :
    (Admitted { booted with cfg := { stopToken := some 0x71#8 }, inputs := { cmdchar := 0x171#9 } } ∧
      (0x171#9 : BitVec 9) = 1#1 ++ ({ stopToken := some 0x71#8 } : Config).stopByte) ∧
    (Admitted { booted with cfg := { stopToken := some 0x71#8 }, inputs := { cmdchar := 0x071#9 } } ∧
      (0x071#9 : BitVec 9).getLsbD 8 = false) ∧
    (0x170#9 : BitVec 9).extractLsb' 0 8 ≠ ({ stopToken := some 0x71#8 } : Config).stopByte :=
  ⟨⟨⟨rfl, rfl, rfl⟩, by decide⟩, ⟨⟨rfl, rfl, rfl⟩, by decide⟩, by decide⟩
/-- StopCharacterHalts: an UPDATE without VALID that halts on another condition. -/
theorem witness_StopCharacterHalts_other :
    (after .update { booted with inputs := { sampleGx := 19661#16, cmdchar := 0x071#9 } }).run = false := by
  decide +kernel
/-- SecondConsecutiveFaultHalts: the defaults of R7. -/
theorem witness_SecondConsecutiveFaultHalts :
    Admitted { booted with inputs := { sfault := 1#1 } } ∧
    ({ booted with inputs := { sfault := 1#1 } } : State).inputs.sfault = 1#1 ∧ booted.cfg.faultHaltCount = 2#8 ∧
    booted.cfg.livenessTimeout = 0#32 ∧
    ({ booted with inputs := { sfault := 1#1 } } : State).inputs.cmdchar.getLsbD 8 = false ∧ booted.faultCnt = 0#8 :=
  ⟨⟨rfl, rfl, rfl⟩, rfl, rfl, rfl, rfl, rfl⟩
/-- InvariantKeptByEveryStep: the reset state with a LOCK on the port. -/
theorem witness_InvariantKeptByEveryStep :
    BlockInv { State.reset with inbox := [.port (.c 3#64)] } ∧
    ∃ t, step { State.reset with inbox := [.port (.c 3#64)] } = .next t := by
  refine ⟨⟨⟨by decide, by decide, by decide, by decide +kernel, by decide +kernel, by decide +kernel⟩,
    ?_, ?_, ?_, ?_, ?_, ?_⟩, ⟨_, rfl⟩⟩
  · intro _; exact ⟨by decide +kernel, by decide +kernel, by decide +kernel, by decide +kernel⟩
  · exact ⟨fun _ => rfl, fun _ => rfl⟩
  · exact ⟨by decide, fun _ => rfl⟩
  · show 0 ≤ _
    decide
  · intro _; exact ⟨rfl, rfl, rfl, rfl⟩
  · show _ ≤ _
    decide
/-- RunningMeansWithinLimits: a host program and an asynchronous abort after which nothing has halted yet. -/
theorem witness_RunningMeansWithinLimits :
    ∃ t, Host.Core.run Sys2Proof.core 2 { State.reset with inbox := [.port (.c 3#64), .port (.c 1#64), .abortAsync] } = .next t ∧
      t.run = true := ⟨_, rfl, rfl⟩
/-- RoundingIsToNearestEven: the least and the largest finite pattern; half a last place above the largest finite value,
and one unit below it. -/
theorem witness_RoundingIsToNearestEven :
    0 < 1 ∧ 0 < infMag ∧ infMag - 1 < infMag ∧ (2 ^ 54 - 1) * 2 ^ 2044 * 1 ≤ (2 ^ 54 - 1) * 2 ^ 2044 ∧
    roundMag ((2 ^ 54 - 1) * 2 ^ 2044 - 1) 1 < infMag := by decide +kernel
/-- RoundingIsToNearestEven: a tie between two patterns, 1.5 units. -/
theorem witness_RoundingIsToNearestEven_tie :
    ((magUnits (roundMag 3 2) * 2 : Nat) - ((3 : Nat) : Int)).natAbs = ((magUnits 1 * 2 : Nat) - ((3 : Nat) : Int)).natAbs ∧
    1 ≠ roundMag 3 2 := by decide +kernel
/-- RoundingIsToNearestEven: finite operands at the top of the range and at zero, a divisor that is the least datum, sums
and differences of zero, and the largest integer that `f64` converts exactly. -/
theorem witness_RoundingIsToNearestEven_operators :
    isFinite 0x7FEFFFFFFFFFFFFF#64 = true ∧ isFinite 0x8000000000000000#64 = true ∧ isZero 0x0000000000000001#64 = false ∧
    signedUnits 0x8000000000000000#64 + signedUnits 0#64 = 0 ∧
    signedUnits 0x8000000000000000#64 - signedUnits 0#64 = 0 ∧ (-(2 ^ 53) : Int).natAbs ≤ 2 ^ 53 := by decide
/-- RoundingIsToNearestEven: operands that meet each case of SpecialResults, the least and the greatest magnitudes of a
NaN and the finite data next to infinity and zero among them. -/
theorem witness_RoundingIsToNearestEven_special :
    isNaN 0x7FF0000000000001#64 = true ∧ isNaN 0xFFFFFFFFFFFFFFFF#64 = true ∧ isInf 0x7FF0000000000000#64 = true ∧
    isInf 0xFFF0000000000000#64 = true ∧ signOf 0x7FF0000000000000#64 ≠ signOf 0xFFF0000000000000#64 ∧
    isFinite 0x7FEFFFFFFFFFFFFF#64 = true ∧ isFinite 0x0000000000000001#64 = true ∧
    isZero 0x0000000000000001#64 = false ∧ isNaN 0x0000000000000001#64 = false ∧ isZero 0x8000000000000000#64 = true := by
  decide
/-- FloatOrderIsOrderOfValues: both zeros, the largest finite datum, and the smallest NaN pattern. -/
theorem witness_FloatOrderIsOrderOfValues :
    isFinite 0x8000000000000000#64 = true ∧ isFinite 0#64 = true ∧ isFinite 0x7FEFFFFFFFFFFFFF#64 = true ∧
    isNaN 0x7FF0000000000001#64 = true := by decide
/-- DecodeIsInvertible: the defaults. -/
theorem witness_DecodeIsInvertible :
    Config.defaults.halfRange = 0x40E0000000000000#64 ∧ Config.defaults.gyroFsr = 0x407F400000000000#64 ∧
    Config.defaults.accFsr = 0x4000000000000000#64 := by decide
/-- GyroLimitInRawCounts: the defaults, and the raw values where the condition changes. -/
theorem witness_GyroLimitInRawCounts :
    Config.defaults.gyroFsr = 0x407F400000000000#64 ∧ Config.defaults.halfRange = 0x40E0000000000000#64 ∧
    Config.defaults.gyroLimit = 0x4072C00000000000#64 ∧ raw 0x4CCD#16 = 19661 ∧ raw 0x4CCC#16 = 19660 ∧
    raw 0xB333#16 = -19661 ∧ raw 0xB334#16 = -19660 := by decide
/-- DeltaIsPositiveAndBounded: the ends of the range, and equal timestamps. -/
theorem witness_DeltaIsPositiveAndBounded :
    (0 < Config.defaults.nsPerS ∧ 999999999 < Config.defaults.nsPerS) ∧ (0 : Nat) = 0 := by decide
/-- SecondsArePositiveAndBounded: both ends of the range. -/
theorem witness_SecondsArePositiveAndBounded :
    Config.defaults.nsPerS = 1000000000 ∧ (1 : Int) ≤ 1 ∧ (1 : Int) ≤ 1000000000 ∧ (1000000000 : Int) ≤ 1000000000 := by
  decide
/-- InclinationOnTheAxes and InclinationWithinHalfTurn: the defaults, and a pair for each axis, ends of the range
included. -/
theorem witness_InclinationOnTheAxes :
    Config.defaults.atan2 = .reference ∧ Config.defaults.degNum = 0x4066800000000000#64 ∧
    Config.defaults.pi = 0x400921FB54442D18#64 ∧ raw 0x0000#16 = 0 ∧ raw 0x8000#16 ≤ 0 ∧ 0 < raw 0x7FFF#16 ∧
    raw 0x8000#16 < 0 := by decide
/-- InclinationWithinHalfTurn: the defaults; num and az on the diagonal, at both ends of the range and next to it. -/
theorem witness_InclinationWithinHalfTurn :
    Config.defaults.atan2 = .reference ∧ Config.defaults.degNum = 0x4066800000000000#64 ∧
    Config.defaults.pi = 0x400921FB54442D18#64 ∧
    ((raw 0x8000#16).natAbs = -raw 0x8000#16 ∧ raw 0x8000#16 ≠ 0) ∧ ((raw 0x0001#16).natAbs = -raw 0xFFFF#16) ∧
    ((raw 0x0000#16).natAbs ≤ -raw 0x0000#16) ∧ ((raw 0x7FFF#16).natAbs ≤ -raw 0x8000#16) ∧ raw 0xFFFF#16 < 0 ∧
    0 < raw 0x0001#16 := by decide
/-- NoDriftAtRest: L1.3's tilt of 30 degrees, both axes at rest. -/
theorem witness_NoDriftAtRest :
    Admitted { booted with inputs := { sampleAy := 0x2000#16, sampleAz := 0xC893#16, ts := 10000000#30 } } ∧
    SampleGood { booted with inputs := { sampleAy := 0x2000#16, sampleAz := 0xC893#16, ts := 10000000#30 } } ∧
    booted.cfg.fusion = .multiplicative ∧ booted.cfg.alpha = 0x3F947AE147AE147B#64 ∧
    booted.cfg.oneMinusAlpha = 0x3FEF5C28F5C28F5C#64 ∧ booted.cfg.nsPerS = 1000000000 ∧
    exec .update { booted with inputs := { sampleAy := 0x2000#16, sampleAz := 0xC893#16, ts := 10000000#30 } } =
      .next (after .update { booted with inputs := { sampleAy := 0x2000#16, sampleAz := 0xC893#16, ts := 10000000#30 } }) ∧
    (let t := after .update { booted with inputs := { sampleAy := 0x2000#16, sampleAz := 0xC893#16, ts := 10000000#30 } }
     isZero t.est.gyroRollRate = true ∧ isZero t.est.gyroPitchRate = true ∧
      fle (fabs t.est.accRoll) 0x4046000000000000#64 = true ∧ fle (fabs t.est.accPitch) 0x4046000000000000#64 = true) ∧
    isFinite booted.est.roll = true ∧ isFinite booted.est.pitch = true := by
  refine ⟨⟨rfl, rfl, rfl⟩, ⟨rfl, by decide⟩, rfl, rfl, rfl, rfl, exec_after _ _, ?_, by decide, by decide⟩
  decide +kernel
/-- LevelCalibrationIsZero: the defaults, N_CAL among them. -/
theorem witness_LevelCalibrationIsZero :
    Config.defaults.atan2 = .reference ∧ Config.defaults.degNum = 0x4066800000000000#64 ∧
    Config.defaults.pi = 0x400921FB54442D18#64 ∧ Config.defaults.halfRange = 0x40E0000000000000#64 ∧
    Config.defaults.gyroFsr = 0x407F400000000000#64 ∧ 0 < Config.defaults.nCal ∧
    Config.defaults.accFsr = 0x4000000000000000#64 ∧ Config.defaults.nCal = 1000 := by decide
/-- BootSequenceAdmitsUpdate: the ends of the range. -/
theorem witness_BootSequenceAdmitsUpdate : (0 : Nat) < 1000000000 ∧ (999999999 : Nat) < 1000000000 := by decide

end Sys2Proof.Machine
end

/-! PROOFS of the statements on the port's register space: what a read of each register returns (R61). -/

namespace Sys2Proof.Machine

/-! ## The register map -/

/-- Each register is the one found at its own offset (R60). -/
@[simp] theorem regAt_regOffset (r : Reg) : regAt (regOffset r) = some r := by
  cases r <;> rfl

/-- A transaction of 8 bytes at a register's offset reaches that register (R63). -/
@[simp] theorem target_regOffset (r : Reg) : target (regOffset r) 8 = some r := by
  simp [target]

/-! ## Reading -/

@[simp] theorem exec_rd (off : Offset) (width : Nat) (s : State) : exec (.rd off width) s = execRd off width s := rfl

/-- R61: an accepted read answers OKAY with the register's value; the state moves by `respond` alone. -/
theorem execRd_of_target {off : Offset} {width : Nat} {r : Reg} (h : target off width = some r) (s : State) :
    execRd off width s = .next (respond .okay (some (readReg s r)) s) := by
  simp [execRd, h]

theorem exec_rd_regOffset (r : Reg) (s : State) :
    exec (.rd (regOffset r) 8) s = .next (respond .okay (some (readReg s r)) s) :=
  execRd_of_target (target_regOffset r) s

/-- R24, R25, R26: STATUS as the sum of its three bits with their weights. -/
theorem statusWord_eq_ofNat (s : State) :
    statusWord s = BitVec.ofNat 64 (s.run.toNat + 2 * s.biasLocked.toNat + 4 * s.tsValid.toNat) := by
  unfold statusWord
  cases s.run <;> cases s.biasLocked <;> cases s.tsValid <;> rfl

/-- R21's table as the port shows it: for each slot that holds a register, the register's offset and its value. -/
def readTable (s : State) : List (Offset × Word) :=
  ((List.range 32).filterMap slotReg).map fun r => (regOffset r, readReg s r)

/-- Every row of the table is what a read of 8 bytes at its offset returns. -/
theorem exec_rd_of_mem_readTable {s : State} {p : Offset × Word} (hp : p ∈ readTable s) :
    exec (.rd p.1 8) s = .next (respond .okay (some p.2) s) := by
  obtain ⟨r, -, rfl⟩ := List.mem_map.mp hp
  exact exec_rd_regOffset r s

/-- Settles O11: the first half is the read of a register at its own offset; the list of the second half is `readTable`,
once STATUS is written as its three bits. -/
theorem readReturnsRegister : Obligations.ReadReturnsRegister := by
  unfold Obligations.ReadReturnsRegister
  refine ⟨fun r s => ⟨exec_rd_regOffset r s, rfl⟩, fun s p hp => ?_⟩
  rw [← statusWord_eq_ofNat] at hp
  have hrow : p ∈ readTable s := hp
  exact exec_rd_of_mem_readTable hrow

end Sys2Proof.Machine

/-! PROOFS of the statements on the encoding: the words that format C does not assign, and how the block answers them
(R83, R87). -/

namespace Sys2Proof.Machine

/-! ## The command decoder on illegal words -/

/-- R82: a bit set above the opcode is refused before the opcode is looked at. -/
theorem decodeCommand_of_reservedBits {w : Word} (hbits : w.extractLsb' 8 56 ≠ 0#56) :
    decodeCommand w = .error .reservedBits := by
  simp [decodeCommand, hbits]

/-- R83: with the reserved bits clear, an opcode above the five assigned ones is refused as such. -/
theorem decodeCommand_of_reservedOpcode {w : Word} (hbits : w.extractLsb' 8 56 = 0#56)
    (hop : 0x05 ≤ (w.extractLsb' 0 8).toNat) : decodeCommand w = .error .reservedOpcode := by
  unfold decodeCommand
  rw [if_neg (not_not_intro hbits)]
  split
  case h_6 => rfl
  all_goals omega

/-- R87: the decoder refuses every illegal word. -/
theorem decodeCommand_of_illegal {w : Word} (h : 0x05 ≤ (w.extractLsb' 0 8).toNat ∨ w.extractLsb' 8 56 ≠ 0#56) :
    ∃ e, decodeCommand w = .error e := by
  by_cases hbits : w.extractLsb' 8 56 = 0#56
  · have hop : 0x05 ≤ (w.extractLsb' 0 8).toNat := h.resolve_right (not_not_intro hbits)
    exact ⟨_, decodeCommand_of_reservedOpcode hbits hop⟩
  · exact ⟨_, decodeCommand_of_reservedBits hbits⟩

/-! ## The two ways to offer a command word -/

@[simp] theorem exec_wr (off : Offset) (width : Nat) (v : Word) (s : State) :
    exec (.wr off width v) s = execWr off width v s := rfl

/-- R62, R155: a write of 8 bytes to CMD performs the command word written. -/
theorem exec_wr_cmd (v : Word) (s : State) : exec (.wr (regOffset .cmd) 8 v) s = performCommand v s := by
  simp [execWr, writeReg, regAccess]

theorem performCommand_of_error {w : Word} {e : DecodeError} (h : decodeCommand w = .error e) (s : State) :
    performCommand w s = .next (okayWrite (reject .illegal s)) := by
  simp [performCommand, h]

theorem performFrame_command_of_error {w : Word} {e : DecodeError} (h : decodeCommand w = .error e) (s : State) :
    performFrame (.c w) s = .next (okayWrite (reject .illegal s)) := by
  simp [performFrame, decode, answerUndecoded, h]

/-- R87: what rejecting an illegal word leaves, field by field. -/
theorem okayWrite_reject_illegal (s : State) :
    okayWrite (reject .illegal s) = { s with err := 0x01#8, resp := some ⟨.okay, none⟩ } := rfl

/-- Settles O15: the decoder refuses the word, and either way of offering a refused word is the same rejection. -/
theorem illegalWordOnlySetsErr : Obligations.IllegalWordOnlySetsErr := by
  unfold Obligations.IllegalWordOnlySetsErr
  intro w s hillegal
  obtain ⟨e, he⟩ := decodeCommand_of_illegal hillegal
  rw [← okayWrite_reject_illegal]
  exact ⟨(exec_wr_cmd w s).trans (performCommand_of_error he s), performFrame_command_of_error he s⟩

end Sys2Proof.Machine

/-! PROOFS of the statement on the decoding of sample words: the physical value of R101 is exact, so it gives the byte
pair back (R103). An operation whose exact result has at most 53 significant bits rounds to that result. -/

namespace Sys2Proof.Machine

/-! ## Sample words -/

/-- R100, R85: the raw value is the two's complement reading of the word. -/
theorem raw_eq_toInt (w : BitVec 16) : raw w = w.toInt := by
  have hw := w.isLt
  have hbytes : (w.extractLsb' 8 8).toNat * 256 + (w.extractLsb' 0 8).toNat = w.toNat := by
    simp only [BitVec.extractLsb'_toNat]
    omega
  rw [raw, BitVec.toInt_eq_toNat_cond]
  split <;> split <;> omega

theorem raw_bounds (w : BitVec 16) : -32768 ≤ raw w ∧ raw w ≤ 32767 := by
  rw [raw_eq_toInt]
  have hlo := w.le_toInt
  have hhi := w.toInt_lt
  omega

@[simp] theorem ofInt_raw (w : BitVec 16) : BitVec.ofInt 16 (raw w) = w := by
  rw [raw_eq_toInt, BitVec.ofInt_toInt]

/-! ## Exact rounding -/

/-- Some finite magnitude is worth exactly `u` units: at most 53 significant bits, below the overflow threshold. -/
def Representable (u : Nat) : Prop := ∃ s j, u = s * 2 ^ j ∧ s < 2 ^ 53 ∧ j ≤ 2045

/-- The significand of a representable value can be taken with 53 bits, or the value is below 2^53 units. -/
theorem exists_normalized {s : Nat} (hs : s < 2 ^ 53) (j : Nat) :
    ∃ q k, s * 2 ^ j = q * 2 ^ k ∧ q < 2 ^ 53 ∧ (k = 0 ∨ 2 ^ 52 ≤ q) ∧ k ≤ j := by
  induction j with
  | zero => exact ⟨s, 0, rfl, hs, .inl rfl, le_rfl⟩
  | succ j ih =>
    obtain ⟨q, k, hqk, hq, hnorm, hkj⟩ := ih
    by_cases hfull : 2 ^ 52 ≤ q
    · exact ⟨q, k + 1, by rw [pow_succ, pow_succ, ← mul_assoc, hqk, mul_assoc], hq, .inr hfull, by omega⟩
    · have hk : k = 0 := hnorm.resolve_right hfull
      exact ⟨q * 2, k, by rw [pow_succ, ← mul_assoc, hqk, mul_right_comm], by omega, .inl hk, by omega⟩

theorem rneDiv_mul_left (q : Nat) {d : Nat} (hd : 0 < d) : rneDiv (q * d) d = q := by
  simp [rneDiv, hd]

/-- The excess over 53 significant bits of a normalized value is its exponent. -/
theorem log2_normalized {q k : Nat} (hq : q < 2 ^ 53) (hnorm : k = 0 ∨ 2 ^ 52 ≤ q) : Nat.log2 (q * 2 ^ k) - 52 = k := by
  obtain rfl | hfull := hnorm
  · have hlog : Nat.log2 q < 53 := by
      obtain rfl | hpos := Nat.eq_zero_or_pos q
      · simp
      · exact (Nat.log2_lt hpos.ne').mpr hq
    rw [pow_zero, mul_one]
    omega
  · have hlog : Nat.log2 (q * 2 ^ k) = 52 + k := by
      rw [Nat.log2_eq_iff (by positivity), pow_add, show 52 + k + 1 = 53 + k by omega, pow_add]
      exact ⟨Nat.mul_le_mul_right _ hfull, Nat.mul_lt_mul_of_pos_right hq (by positivity)⟩
    omega

/-- The pattern `roundMag` builds from a normalized value has that value. -/
theorem magUnits_normalized {q k : Nat} (hq : q < 2 ^ 53) (hnorm : k = 0 ∨ 2 ^ 52 ≤ q) :
    magUnits (k * 2 ^ 52 + q) = q * 2 ^ k := by
  by_cases hfull : 2 ^ 52 ≤ q
  · have hexp : (k * 2 ^ 52 + q) / 2 ^ 52 = k + 1 := by omega
    have hfrac : 2 ^ 52 + (k * 2 ^ 52 + q) % 2 ^ 52 = q := by omega
    rw [magUnits, hexp, if_neg (by omega), hfrac, Nat.add_sub_cancel]
  · obtain rfl := hnorm.resolve_right hfull
    rw [magUnits, if_pos (by omega)]
    omega

/-- R11: a ratio that is exactly a representable value is not changed by rounding. -/
theorem roundMag_exact {u den : Nat} (hden : 0 < den) (hu : Representable u) :
    roundMag (u * den) den < infMag ∧ magUnits (roundMag (u * den) den) = u := by
  obtain ⟨s, j, rfl, hs, hj⟩ := hu
  obtain ⟨q, k, hqk, hq, hnorm, hkj⟩ := exists_normalized hs j
  rw [hqk]
  have hround : roundMag (q * 2 ^ k * den) den = k * 2 ^ 52 + q := by
    have hscaled : q * 2 ^ k * den = q * (den * 2 ^ k) := by ring
    rw [roundMag, Nat.mul_div_cancel _ hden, log2_normalized hq hnorm, hscaled, rneDiv_mul_left _ (by positivity)]
    simp only [infMag]
    omega
  rw [hround]
  refine ⟨?_, magUnits_normalized hq hnorm⟩
  simp only [infMag]
  omega

/-! ## Signed values -/

/-- The integer with a sign and a magnitude. -/
def withSign (neg : Bool) (u : Nat) : Int := if neg then -(u : Int) else (u : Int)

theorem signedUnits_eq_withSign (a : F64) : signedUnits a = withSign (signOf a) (unitsOf a) := rfl

@[simp] theorem natAbs_withSign (neg : Bool) (u : Nat) : (withSign neg u).natAbs = u := by
  cases neg <;> simp [withSign]

@[simp] theorem withSign_decide_natAbs (v : Int) : withSign (decide (v < 0)) v.natAbs = v := by
  simp only [withSign, decide_eq_true_eq]
  split <;> omega

theorem withSign_mul (x y : Bool) (u w : Nat) : withSign x u * withSign y w = withSign (x != y) (u * w) := by
  cases x <;> cases y <;> simp [withSign]

theorem withSign_mul_two_pow (x : Bool) (u n : Nat) : withSign x u * 2 ^ n = withSign x (u * 2 ^ n) := by
  cases x <;> simp [withSign]

theorem natAbs_signedUnits (a : F64) : (signedUnits a).natAbs = unitsOf a := natAbs_withSign _ _

/-- A datum packed from an exact rounding is finite and has the sign and the value given. -/
theorem pack_roundMag_exact (neg : Bool) {u den : Nat} (hden : 0 < den) (hu : Representable u) :
    isFinite (pack neg (roundMag (u * den) den)) = true ∧
    signedUnits (pack neg (roundMag (u * den) den)) = withSign neg u := by
  obtain ⟨hfin, hunits⟩ := roundMag_exact hden hu
  have hlt := roundMag_lt (u * den) den
  rw [isFinite, signedUnits_eq_withSign, unitsOf, magOf_pack _ _ hlt, signOf_pack _ _ hlt, hunits]
  exact ⟨decide_eq_true hfin, rfl⟩

/-! ## Exact operations on finite data -/

theorem isNaN_of_isFinite {a : F64} (h : isFinite a = true) : isNaN a = false := by
  simp only [isFinite, isNaN, decide_eq_true_eq, decide_eq_false_iff_not] at *
  omega

theorem isInf_of_isFinite {a : F64} (h : isFinite a = true) : isInf a = false := by
  simp only [isFinite, isInf, decide_eq_true_eq, decide_eq_false_iff_not] at *
  omega

theorem isZero_of_unitsOf_pos {a : F64} (h : 0 < unitsOf a) : isZero a = false := by
  rw [isZero, decide_eq_false_iff_not]
  intro hz
  simp [unitsOf, hz, magUnits] at h

/-- R11: an integer of at most 53 bits is converted exactly. -/
theorem f64OfInt_exact {v : Int} (hv : v.natAbs < 2 ^ 53) :
    isFinite (f64OfInt v) = true ∧ signedUnits (f64OfInt v) = v * 2 ^ unitExp := by
  have hrep : Representable (v.natAbs * 2 ^ unitExp) := ⟨v.natAbs, unitExp, rfl, hv, by decide⟩
  obtain ⟨hfin, hval⟩ := pack_roundMag_exact (decide (v < 0)) one_pos hrep
  rw [mul_one] at hfin hval
  refine ⟨hfin, hval.trans ?_⟩
  rw [← withSign_mul_two_pow, withSign_decide_natAbs]

/-- A product that is exactly `v` units, with `v` representable, is computed without rounding. -/
theorem fmul_exact (d : Nat) {a b : F64} {v : Int} (ha : isFinite a = true) (hb : isFinite b = true)
    (hv : Representable v.natAbs) (hprod : signedUnits a * signedUnits b = v * 2 ^ unitExp) :
    isFinite (fmul d a b) = true ∧ signedUnits (fmul d a b) = v := by
  have hunits : unitsOf a * unitsOf b = v.natAbs * 2 ^ unitExp := by
    simpa [Int.natAbs_mul, Int.natAbs_pow, natAbs_signedUnits] using congrArg Int.natAbs hprod
  have hround : fmul d a b =
      pack (signOf a != signOf b) (roundMag (v.natAbs * 2 ^ unitExp) (2 ^ unitExp)) := by
    simp [fmul, isNaN_of_isFinite, isInf_of_isFinite, ha, hb, hunits]
  obtain ⟨hfin, hval⟩ := pack_roundMag_exact (signOf a != signOf b) (Nat.two_pow_pos unitExp) hv
  rw [hround]
  refine ⟨hfin, hval.trans ?_⟩
  have hcancel : withSign (signOf a != signOf b) v.natAbs * 2 ^ unitExp = v * 2 ^ unitExp := by
    rw [withSign_mul_two_pow, ← hunits, ← withSign_mul, ← signedUnits_eq_withSign, ← signedUnits_eq_withSign, hprod]
  exact mul_right_cancel₀ (by positivity) hcancel

/-- A quotient that is exactly `v` units, with `v` representable, is computed without rounding. -/
theorem fdiv_exact (d : Nat) {a b : F64} {v : Int} (ha : isFinite a = true) (hb : isFinite b = true)
    (hpos : 0 < unitsOf b) (hv : Representable v.natAbs)
    (hquot : signedUnits a * 2 ^ unitExp = v * signedUnits b) :
    isFinite (fdiv d a b) = true ∧ signedUnits (fdiv d a b) = v := by
  have hunits : unitsOf a * 2 ^ unitExp = v.natAbs * unitsOf b := by
    simpa [Int.natAbs_mul, Int.natAbs_pow, natAbs_signedUnits] using congrArg Int.natAbs hquot
  have hround : fdiv d a b = pack (signOf a != signOf b) (roundMag (v.natAbs * unitsOf b) (unitsOf b)) := by
    simp [fdiv, isNaN_of_isFinite, isInf_of_isFinite, isZero_of_unitsOf_pos, ha, hb, hpos, hunits]
  obtain ⟨hfin, hval⟩ := pack_roundMag_exact (signOf a != signOf b) hpos hv
  rw [hround]
  refine ⟨hfin, hval.trans ?_⟩
  have hsign : ((signOf a != signOf b) != signOf b) = signOf a := by simp
  have hcancel : withSign (signOf a != signOf b) v.natAbs * signedUnits b = v * signedUnits b := by
    rw [← hquot, signedUnits_eq_withSign b, withSign_mul, hsign, ← hunits, ← withSign_mul_two_pow,
      ← signedUnits_eq_withSign a]
  have hne : signedUnits b ≠ 0 := by
    rw [← Int.natAbs_pos, natAbs_signedUnits]
    exact hpos
  exact mul_right_cancel₀ hne hcancel

/-! ## The physical value of a sample -/

/-- A range of `t` times a power of two, short enough that its product with a 16-bit value fits the significand, and
large enough that the quotient by 32768 is whole. -/
structure ExactRange (fsr : F64) (t j : Nat) : Prop where
  finite : isFinite fsr = true
  units : signedUnits fsr = t * 2 ^ (j + 15)
  short : t ≤ 2 ^ 37
  small : j + 15 ≤ 2045

/-- R7: GYRO_FSR is 500.0 = 125 * 2^2. -/
theorem exactRange_gyroFsr : ExactRange 0x407F400000000000#64 125 1061 where
  finite := by decide
  units := by decide +kernel
  short := by decide
  small := by decide

/-- R7: ACC_FSR is 2.0. -/
theorem exactRange_accFsr : ExactRange 0x4000000000000000#64 1 1060 where
  finite := by decide
  units := by decide +kernel
  short := by decide
  small := by decide

/-- R7: HALF_RANGE is 32768.0. -/
theorem signedUnits_halfRange : signedUnits 0x40E0000000000000#64 = 32768 * 2 ^ unitExp := by decide +kernel

theorem unitsOf_halfRange_pos : 0 < unitsOf 0x40E0000000000000#64 := by decide +kernel

/-- A 16-bit multiple of an exact range's significand is representable at every exponent up to the range's own. -/
theorem ExactRange.representable {fsr : F64} {t j i : Nat} (hr : ExactRange fsr t j) {v : Int} (hlo : -32768 ≤ v)
    (hhi : v ≤ 32767) (hi : i ≤ j + 15) : Representable (v * (t * 2 ^ i : Int)).natAbs := by
  refine ⟨v.natAbs * t, i, by simp [Int.natAbs_mul, Int.natAbs_pow, mul_assoc], ?_, hi.trans hr.small⟩
  calc v.natAbs * t ≤ 32768 * 2 ^ 37 := Nat.mul_le_mul (by omega) hr.short
    _ < 2 ^ 53 := by decide

/-- R101: neither the product nor the quotient of the scaling rounds. -/
theorem scale_exact (c : Config) (d : Nat) {fsr : F64} {t j : Nat} (hhalf : c.halfRange = 0x40E0000000000000#64)
    (hr : ExactRange fsr t j) {v : Int} (hlo : -32768 ≤ v) (hhi : v ≤ 32767) :
    isFinite (scale c d v fsr) = true ∧ signedUnits (scale c d v fsr) = v * (t * 2 ^ j : Int) := by
  obtain ⟨hintFin, hint⟩ := f64OfInt_exact (v := v) (by omega)
  obtain ⟨hmulFin, hmul⟩ := fmul_exact d hintFin hr.finite (hr.representable hlo hhi le_rfl)
    (by rw [hint, hr.units, mul_right_comm])
  rw [scale, hhalf]
  refine fdiv_exact (d + 1) hmulFin (by decide) unitsOf_halfRange_pos (hr.representable hlo hhi (by omega)) ?_
  rw [hmul, signedUnits_halfRange, pow_add]
  ring

/-- Settles O50: both default ranges are exact, so the physical value times 32768 is the raw value times the range, and
the raw value is the two's complement reading of the byte pair. -/
theorem decodeIsInvertible : Obligations.DecodeIsInvertible := by
  unfold Obligations.DecodeIsInvertible
  intro c d h l fsr hhalf hfsr
  obtain ⟨t, j, hr⟩ : ∃ t j, ExactRange fsr t j := by
    obtain rfl | rfl := hfsr
    · exact ⟨_, _, exactRange_gyroFsr⟩
    · exact ⟨_, _, exactRange_accFsr⟩
  obtain ⟨hlo, hhi⟩ := raw_bounds (h ++ l)
  obtain ⟨hfin, hval⟩ := scale_exact c d hhalf hr hlo hhi
  refine ⟨hfin, raw (h ++ l), hlo, hhi, ?_, ofInt_raw _⟩
  rw [hval, hr.units, pow_add]
  ring

end Sys2Proof.Machine

/-! PROOFS of the statements on the halt latch and the liveness counter: what a HALTED block keeps (R142, R144), and what
every admitted UPDATE counts (R135). -/

namespace Sys2Proof.Machine

/-! ## Executions -/

/-- A run of one step more is that step, then the rest of the run. -/
theorem core_run_succ {M : Host.Core} {n : Nat} {s u : M.State} (h : M.run (n + 1) s = .next u) :
    ∃ t, M.step s = .next t ∧ M.run n t = .next u := by
  unfold Host.Core.run at h
  split at h
  · exact ⟨_, by assumption, h⟩
  · cases h
  · cases h

/-- What every step keeps, every run keeps. -/
theorem core_run_keeps {M : Host.Core} {P : M.State → Prop} (hstep : ∀ s t, P s → M.step s = .next t → P t) {n : Nat}
    {s t : M.State} (hs : P s) (h : M.run n s = .next t) : P t := by
  induction n generalizing s with
  | zero =>
    cases h
    exact hs
  | succ n ih =>
    obtain ⟨m, hm, hrest⟩ := core_run_succ h
    exact ih (hstep s m hs hm) hrest

theorem head_ne_rst_of_resetFree {l : List Event} (h : resetFree l = true) : ∀ rest, l ≠ .rst :: rest := by
  rintro rest rfl
  simp [resetFree] at h

theorem resetFree_tail {l : List Event} (h : resetFree l = true) : resetFree l.tail = true := by
  cases l with
  | nil => exact h
  | cons e rest => exact (Bool.and_eq_true_iff.mp h).2

/-! ## The latch in HALTED -/

/-- R159: the first admission check refuses every UPDATE of a halted block. -/
theorem execUpdate_of_halted {s : State} (hr : s.run = false) : execUpdate s = .next (okayWrite (reject .halted s)) := by
  simp [execUpdate, hr]

/-- The halt latch, and what the host does next, are as before. -/
structure LatchKept (s t : State) : Prop where
  run : t.run = s.run
  cause : t.haltCause = s.haltCause
  inbox : t.inbox = s.inbox

/-- Of the five commands only UPDATE and ABORT can move the latch, and in HALTED the one is refused and the other finds
it moved already. -/
theorem execOpcode_latchKept_of_halted {op : Opcode} {s t : State} (hr : s.run = false) (h : execOpcode op s = .next t) :
    LatchKept s t := by
  cases op with
  | nop =>
    cases h
    exact ⟨rfl, rfl, rfl⟩
  | sync =>
    obtain ⟨-, rfl⟩ | ⟨-, rfl⟩ := execSync_cases h
    · exact ⟨rfl, rfl, rfl⟩
    · exact ⟨rfl, rfl, rfl⟩
  | update =>
    cases (execUpdate_of_halted hr).symm.trans h
    exact ⟨rfl, rfl, rfl⟩
  | lock =>
    cases h
    exact ⟨rfl, rfl, rfl⟩
  | abort =>
    cases h
    rw [halt_of_halted _ hr]
    exact ⟨rfl, rfl, rfl⟩

theorem performCommand_latchKept_of_halted {v : Word} {s t : State} (hr : s.run = false)
    (h : performCommand v s = .next t) : LatchKept s t := by
  obtain ⟨op, -, hop⟩ | ⟨e, -, rfl⟩ := performCommand_cases h
  · exact execOpcode_latchKept_of_halted hr hop
  · exact ⟨rfl, rfl, rfl⟩

/-- R142: no instruction moves the latch of a halted block. -/
theorem exec_latchKept_of_halted {i : Instr} {s t : State} (hr : s.run = false) (h : exec i s = .next t) :
    LatchKept s t := by
  cases i with
  | rd off width =>
    obtain ⟨-, rfl⟩ | ⟨r, -, rfl⟩ := execRd_cases h
    · exact ⟨rfl, rfl, rfl⟩
    · exact ⟨rfl, rfl, rfl⟩
  | wr off width v =>
    obtain ⟨rfl, -⟩ | ⟨-, hcmd⟩ | ⟨r, -, -, rfl⟩ := execWr_cases h
    · exact ⟨rfl, rfl, rfl⟩
    · exact performCommand_latchKept_of_halted hr hcmd
    · exact ⟨by simp, by simp, by simp⟩
  | nop => exact execOpcode_latchKept_of_halted (op := .nop) hr h
  | sync => exact execOpcode_latchKept_of_halted (op := .sync) hr h
  | update => exact execOpcode_latchKept_of_halted (op := .update) hr h
  | lock => exact execOpcode_latchKept_of_halted (op := .lock) hr h
  | abort => exact execOpcode_latchKept_of_halted (op := .abort) hr h

/-- A frame that is no instruction is answered, and moves the latch in neither mode. -/
theorem answerUndecoded_latchKept (f : Frame) (s : State) : LatchKept s (answerUndecoded f s) := by
  cases f with
  | c w => exact ⟨rfl, rfl, rfl⟩
  | t sel width data =>
    simp only [answerUndecoded]
    split
    · exact ⟨rfl, rfl, rfl⟩
    · exact ⟨rfl, rfl, rfl⟩

/-- R142: a step of a halted block that is no `rst` takes its item out of the inbox and keeps the latch. -/
theorem step_latchKept_of_halted {s t : State} (hr : s.run = false) (hrst : ∀ rest, s.inbox ≠ .rst :: rest)
    (h : step s = .next t) : LatchKept (popInbox s.inbox.tail s) t := by
  obtain ⟨hnil, rfl⟩ | ⟨rest, he, rfl⟩ | ⟨rest, he, -⟩ | ⟨f, rest, i, he, -, hi⟩ | ⟨f, rest, e, he, -, rfl⟩ :=
    step_cases h
  · exact ⟨rfl, rfl, by simp [hnil]⟩
  · have hpop : (popInbox rest s).run = false := hr
    rw [halt_of_halted _ hpop, he]
    exact ⟨rfl, rfl, rfl⟩
  · exact absurd he (hrst rest)
  · rw [he]
    exact exec_latchKept_of_halted hr hi
  · rw [he]
    exact answerUndecoded_latchKept f _

/-- R201: a step that is an `rst` is the reset of the block. -/
theorem step_of_rst {s : State} {rest : List Event} (he : s.inbox = .rst :: rest) :
    step s = .next (resetBlock (popInbox rest s)) := by
  simp [step, he, performEvent]

/-- Settles O32: a step that is no `rst` keeps the latch of a halted block, and an `rst` step is the reset. -/
theorem haltedStaysHalted : Obligations.HaltedStaysHalted := by
  unfold Obligations.HaltedStaysHalted
  intro s t hr h
  constructor
  · intro hrst
    have hkept := step_latchKept_of_halted hr hrst h
    exact ⟨hkept.run.trans hr, hkept.cause⟩
  · rintro ⟨rest, he⟩
    cases (step_of_rst he).symm.trans h
    exact ⟨resetBlock_run _, resetBlock_haltCause _⟩

/-- Halted with this cause, and no `rst` is to come (R202). -/
structure HaltedForGood (cause : BitVec 10) (s : State) : Prop where
  halted : s.run = false
  cause_eq : s.haltCause = cause
  noRst : resetFree s.inbox = true

theorem step_keeps_haltedForGood (cause : BitVec 10) (s t : State) (hs : HaltedForGood cause s) (h : step s = .next t) :
    HaltedForGood cause t := by
  have hkept := step_latchKept_of_halted hs.halted (head_ne_rst_of_resetFree hs.noRst) h
  refine ⟨hkept.run.trans hs.halted, hkept.cause.trans hs.cause_eq, ?_⟩
  rw [hkept.inbox]
  exact resetFree_tail hs.noRst

/-- R13, R64: what refusing an UPDATE in HALTED leaves, field by field. -/
theorem okayWrite_reject_halted (s : State) :
    okayWrite (reject .halted s) = { s with err := 0x02#8, resp := some ⟨.okay, none⟩ } := rfl

/-- Settles O35: the halted block is still halted at the end of the run, so the admission check refuses the UPDATE. Which
step halted it does not matter. -/
theorem updateAfterHaltRefused : Obligations.UpdateAfterHaltRefused := by
  unfold Obligations.UpdateAfterHaltRefused
  intro _ t u _ _ _ hhalted hfree hrun
  have ht : HaltedForGood t.haltCause t := ⟨hhalted, rfl, hfree⟩
  have hu := core_run_keeps (step_keeps_haltedForGood t.haltCause) ht hrun
  rw [← okayWrite_reject_halted]
  exact execUpdate_of_halted hu.halted

/-! ## The liveness counter -/

/-- R10: the saturating increment, in numbers. -/
@[simp] theorem toNat_satInc {w : Nat} (v : BitVec w) : (satInc v).toNat = min (v.toNat + 1) (2 ^ w - 1) := by
  have hpos : 0 < 2 ^ w := Nat.two_pow_pos w
  rw [satInc, BitVec.toNat_ofNat]
  exact Nat.mod_eq_of_lt (by omega)

/-- R135: the violation is that the timeout is enabled and STALL_CNT has reached it. -/
theorem violLive_iff (s : State) :
    violLive s = true ↔ 0 < s.cfg.livenessTimeout.toNat ∧ s.cfg.livenessTimeout.toNat ≤ s.stallCnt.toNat := by
  simp [violLive]

/-- R28, R136: in the mask of a good UPDATE, the LIVENESS bit is the liveness violation. -/
theorem goodMask_liveness (gx gy gz : F64) (s : State) : (goodMask gx gy gz s).getLsbD 9 = violLive s := by
  simp only [goodMask, BitVec.getLsbD_or, flag_getLsbD]
  simp [causePos]

/-- R28, R139: in the mask of a faulted UPDATE, the LIVENESS bit is the liveness violation. -/
theorem faultMask_liveness (s : State) : (faultMask s).getLsbD 9 = violLive s := by
  simp only [faultMask, BitVec.getLsbD_or, flag_getLsbD]
  simp [causePos]

/-- R136, R139: a mask with a bit set halts the running block, and that bit is recorded. -/
theorem haltIf_records_bit {m : BitVec 10} {s : State} {i : Nat} (hr : s.run = true) (hbit : m.getLsbD i = true) :
    (haltIf m s).run = false ∧ (haltIf m s).haltCause.getLsbD i = true := by
  have hm : m ≠ 0#10 := by
    rintro rfl
    simp at hbit
  simp [hm, hr, hbit]

/-- R136, R139: where the mask halts the running block, a bit not in the mask is not recorded. -/
theorem haltIf_omits_bit {m : BitVec 10} {s : State} {i : Nat} (hr : s.run = true) (hbit : m.getLsbD i = false)
    (hhalt : (haltIf m s).run = false) : (haltIf m s).haltCause.getLsbD i = false := by
  have hm : m ≠ 0#10 := by
    rintro rfl
    simp [hr] at hhalt
  simp [hm, hr, hbit]

/-- R135: what an UPDATE from `s` to `t` does to the liveness counter and the halt it leads to. -/
structure CountsLiveness (s t : State) : Prop where
  livePrev : t.livePrev = s.inputs.live
  unchanged : s.inputs.live = s.livePrev → t.stallCnt.toNat = min (s.stallCnt.toNat + 1) (2 ^ 32 - 1)
  changed : s.inputs.live ≠ s.livePrev → t.stallCnt = 0#32
  timeout : 0 < s.cfg.livenessTimeout.toNat ∧ s.cfg.livenessTimeout.toNat ≤ t.stallCnt.toNat →
    t.run = false ∧ t.haltCause.getLsbD 9 = true
  noTimeout : ¬ (0 < s.cfg.livenessTimeout.toNat ∧ s.cfg.livenessTimeout.toNat ≤ t.stallCnt.toNat) → t.run = false →
    t.haltCause.getLsbD 9 = false

/-- Either path of UPDATE ends in the liveness update and a halt on a mask whose LIVENESS bit is its violation; that is
all R135 needs. -/
theorem countsLiveness_haltIf {s : State} {m : BitVec 10} (code : ResultCode) (hr : s.run = true)
    (hbit : m.getLsbD 9 = violLive (livenessUpdate s)) :
    CountsLiveness s (okayWrite (setErr code (haltIf m (livenessUpdate s)))) := by
  have hviol := violLive_iff (livenessUpdate s)
  rw [← hbit] at hviol
  constructor
  case livePrev => simp
  case unchanged =>
    intro hlive
    simp [hlive]
  case changed =>
    intro hlive
    simp [hlive]
  case timeout =>
    intro htimeout
    exact haltIf_records_bit hr (hviol.mpr (by simpa using htimeout))
  case noTimeout =>
    intro hno hhalt
    refine haltIf_omits_bit hr ?_ hhalt
    exact Bool.eq_false_iff.mpr fun hset => hno (by simpa using hviol.mp hset)

theorem goodPath_countsLiveness {s : State} (hr : s.run = true) : CountsLiveness s (okayWrite (goodPath s)) := by
  have h := countsLiveness_haltIf (s := clearFaults (commit (filter s) s)) .ok hr
    (goodMask_liveness (filter s).gx (filter s).gy (filter s).gz _)
  exact ⟨h.livePrev, h.unchanged, h.changed, h.timeout, h.noTimeout⟩

theorem faultPath_countsLiveness {s : State} (hr : s.run = true) : CountsLiveness s (okayWrite (faultPath s)) := by
  have h := countsLiveness_haltIf (s := countFault s) (faultCode s) hr (faultMask_liveness _)
  exact ⟨h.livePrev, h.unchanged, h.changed, h.timeout, h.noTimeout⟩

/-- R159, R160: an admitted UPDATE takes the good path or the fault path. -/
theorem execUpdate_of_admitted {s : State} (h : Admitted s) :
    execUpdate s = .next (okayWrite (if sampleFaulted s then faultPath s else goodPath s)) := by
  obtain ⟨hr, hb, ht⟩ := h
  cases hf : sampleFaulted s <;> simp [execUpdate, hr, hb, ht, hf]

/-- Settles O28: an admitted UPDATE takes one of two paths, and both count liveness. -/
theorem updateCountsLiveness : Obligations.UpdateCountsLiveness := by
  unfold Obligations.UpdateCountsLiveness
  intro s hadm
  have hr : s.run = true := hadm.left
  have hcounts : CountsLiveness s (okayWrite (if sampleFaulted s then faultPath s else goodPath s)) := by
    split
    · exact faultPath_countsLiveness hr
    · exact goodPath_countsLiveness hr
  obtain ⟨hprev, hunchanged, hchanged, htimeout, hno⟩ := hcounts
  exact ⟨_, execUpdate_of_admitted hadm, hprev, hunchanged, hchanged, htimeout, hno⟩

end Sys2Proof.Machine

/-! PROOFS of the statements on the commands: what NOP (R156), SYNC (R157, R158) and a refused UPDATE (R159) leave. -/

namespace Sys2Proof.Machine

/-! ## The answer of a command -/

/-- R83: the word assigned to a command selects it. -/
@[simp] theorem decodeCommand_commandWord (op : Opcode) : decodeCommand (commandWord op) = .ok op := by
  cases op with
  | nop => rfl
  | sync => rfl
  | update => rfl
  | lock => rfl
  | abort => rfl

theorem decode_commandWord (op : Opcode) : decode (.c (commandWord op)) = .ok op.instr := by
  simp [decode]

/-- R13, R27, R64: what a command leaves whose only effect is its result code, a rejection or NOP, field by field. -/
theorem okayWrite_setErr (c : ResultCode) (s : State) :
    okayWrite (setErr c s) = { s with err := resultCode c, resp := some ⟨.okay, none⟩ } := rfl

/-! ## UPDATE's admission checks -/

/-- R159: the second admission check, reached in RUNNING. -/
theorem execUpdate_of_unlocked {s : State} (hr : s.run = true) (hb : s.biasLocked = false) :
    execUpdate s = .next (okayWrite (reject .notcal s)) := by
  simp [execUpdate, hr, hb]

/-- R159: the third admission check, reached in RUNNING with the bias lock. -/
theorem execUpdate_of_noTimestamp {s : State} (hr : s.run = true) (hb : s.biasLocked = true) (ht : s.tsValid = false) :
    execUpdate s = .next (okayWrite (reject .nots s)) := by
  simp [execUpdate, hr, hb, ht]

/-- Settles O24: each check that fails first ends the UPDATE in the rejection with its own code. -/
theorem updateAdmissionOrder : Obligations.UpdateAdmissionOrder := by
  unfold Obligations.UpdateAdmissionOrder
  intro s
  refine ⟨fun hr => ?_, fun hr hb => ?_, fun hr hb ht => ?_⟩
  · exact (execUpdate_of_halted hr).trans (congrArg Host.Outcome.next (okayWrite_setErr .halted s))
  · exact (execUpdate_of_unlocked hr hb).trans (congrArg Host.Outcome.next (okayWrite_setErr .notcal s))
  · exact (execUpdate_of_noTimestamp hr hb ht).trans (congrArg Host.Outcome.next (okayWrite_setErr .nots s))

/-! ## NOP -/

/-- Settles O19: the word 0 is NOP's command word, and NOP does nothing but set its result code. -/
theorem nopClearsErrOnly : Obligations.NopClearsErrOnly := by
  unfold Obligations.NopClearsErrOnly
  exact ⟨decode_commandWord .nop, fun s => congrArg Host.Outcome.next (okayWrite_setErr .ok s)⟩

/-! ## SYNC -/

/-- R157: an out-of-range TS is refused. -/
theorem execSync_of_outOfRange {s : State} (h : s.cfg.nsPerS ≤ tsOf s) :
    execSync s = .next (okayWrite (reject .tsrange s)) :=
  if_pos h

/-- R157: an in-range TS is latched. -/
theorem execSync_of_inRange {s : State} (h : tsOf s < s.cfg.nsPerS) :
    execSync s = .next (okayWrite (setErr .ok (latchTs s))) :=
  if_neg (Nat.not_le.mpr h)

/-- R158: SYNC moves neither TS nor the bound on it, so a second SYNC takes the branch of the first and finds its work
done. -/
theorem execSync_idempotent {s t : State} (h : execSync s = .next t) : execSync t = .next t := by
  obtain ⟨hout, rfl⟩ | ⟨hin, rfl⟩ := execSync_cases h
  · exact execSync_of_outOfRange hout
  · exact execSync_of_inRange hin

/-- R158: neither branch of SYNC clears TS_VALID. -/
theorem execSync_keeps_tsValid {s t : State} (h : execSync s = .next t) (hv : s.tsValid = true) : t.tsValid = true := by
  obtain ⟨-, rfl⟩ | ⟨-, rfl⟩ := execSync_cases h
  · simpa using hv
  · simp

/-- R158: a rejected SYNC leaves the earlier timestamp and its valid bit. -/
theorem execSync_rejected_keeps_timestamp {s t : State} (h : execSync s = .next t) (hout : s.cfg.nsPerS ≤ tsOf s) :
    t.prevTs = s.prevTs ∧ t.tsValid = s.tsValid := by
  cases (execSync_of_outOfRange hout).symm.trans h
  simp

/-- Settles O21: the three sentences of R158, each from the two ways a SYNC ends. -/
theorem syncRepeatsAndNeverClears : Obligations.SyncRepeatsAndNeverClears := by
  unfold Obligations.SyncRepeatsAndNeverClears
  intro s t h
  exact ⟨execSync_idempotent h, execSync_keeps_tsValid h, execSync_rejected_keeps_timestamp h⟩

end Sys2Proof.Machine

/-! PROOFS of the statements on the encoding: decoder and encoder are inverse to each other (R81, R83), format C is
total (R82, R89), and a write of a command word to CMD is the command (R155). -/

namespace Sys2Proof.Machine

/-! ## The nine bits of a transaction -/

/-- R81: KIND is the bit above OFF. -/
@[simp] theorem kind_append (k : BitVec 1) (off : Offset) : (k ++ off).getLsbD 8 = k.getLsbD 0 := by
  rw [BitVec.getLsbD_append]
  simp

/-- R81: OFF is the eight bits below KIND. -/
@[simp] theorem offset_append (k : BitVec 1) (off : Offset) : (k ++ off).extractLsb' 0 8 = off := by
  ext i hi
  rw [BitVec.getElem_extractLsb', BitVec.getLsbD_append, ← BitVec.getLsbD_eq_getElem]
  simp [hi]

/-- R81: the nine bits are KIND above OFF and nothing else. -/
theorem append_of_kind {sel : BitVec 9} {k : BitVec 1} (hk : sel.getLsbD 8 = k.getLsbD 0) :
    k ++ sel.extractLsb' 0 8 = sel := by
  ext i hi
  rw [BitVec.getElem_append, ← BitVec.getLsbD_eq_getElem]
  split
  · simp_all
  · obtain rfl : i = 8 := by omega
    simpa using hk.symm

theorem decodeTransaction_read {sel : BitVec 9} {width : Nat} (hw : 0 < width) (hk : sel.getLsbD 8 = false) (data : Word) :
    decodeTransaction sel width data = .ok (.rd (sel.extractLsb' 0 8) width) := by
  rw [decodeTransaction, if_neg hw.ne', if_neg (by rw [hk]; decide)]

theorem decodeTransaction_write {sel : BitVec 9} {width : Nat} (hw : 0 < width) (hk : sel.getLsbD 8 = true) (data : Word) :
    decodeTransaction sel width data = .ok (.wr (sel.extractLsb' 0 8) width data) := by
  rw [decodeTransaction, if_neg hw.ne', if_pos hk]

/-- R81: the three things a transaction can decode to. -/
theorem decodeTransaction_cases {sel : BitVec 9} {width : Nat} {data : Word} {i : Instr}
    (h : decodeTransaction sel width data = .ok i) :
    0 < width ∧
      ((sel.getLsbD 8 = true ∧ i = .wr (sel.extractLsb' 0 8) width data) ∨
        (sel.getLsbD 8 = false ∧ i = .rd (sel.extractLsb' 0 8) width)) := by
  have hw : 0 < width := by
    rw [Nat.pos_iff_ne_zero]
    rintro rfl
    simp [decodeTransaction] at h
  refine ⟨hw, ?_⟩
  cases hk : sel.getLsbD 8 with
  | true => exact .inl ⟨rfl, by simpa [decodeTransaction_write hw hk] using h.symm⟩
  | false => exact .inr ⟨rfl, by simpa [decodeTransaction_read hw hk] using h.symm⟩

/-! ## The command words -/

/-- R82: a word with the reserved bits clear is its opcode. -/
theorem toNat_of_reservedBits_clear {w : Word} (hbits : w.extractLsb' 8 56 = 0#56) :
    w.toNat = (w.extractLsb' 0 8).toNat := by
  have h := congrArg BitVec.toNat hbits
  simp only [BitVec.extractLsb'_toNat] at h ⊢
  have hw := w.isLt
  simp only [Nat.shiftRight_eq_div_pow] at h ⊢
  simp only [BitVec.toNat_ofNat] at h
  omega

/-- R83: a word that selects a command is that command's word. -/
theorem eq_commandWord_of_decodeCommand {w : Word} {op : Opcode} (h : decodeCommand w = .ok op) : w = commandWord op := by
  unfold decodeCommand at h
  split at h
  · cases h
  · rename_i hbits
    have hnat := toNat_of_reservedBits_clear (not_not.mp hbits)
    apply BitVec.eq_of_toNat_eq
    rw [hnat]
    split at h <;> cases h <;> assumption

/-- R155, R83: which word selects which command. -/
theorem decodeCommand_eq_ok_iff {w : Word} {op : Opcode} : decodeCommand w = .ok op ↔ w = commandWord op :=
  ⟨eq_commandWord_of_decodeCommand, fun h => h ▸ decodeCommand_commandWord op⟩

/-- R82, R83: a word with no reserved bit and an opcode below 0x05 selects a command. -/
theorem decodeCommand_of_legal {w : Word} (hbits : w.extractLsb' 8 56 = 0#56) (hop : (w.extractLsb' 0 8).toNat < 0x05) :
    ∃ op, decodeCommand w = .ok op := by
  unfold decodeCommand
  rw [if_neg (not_not_intro hbits)]
  generalize (w.extractLsb' 0 8).toNat = n at hop
  interval_cases n <;> exact ⟨_, rfl⟩

/-- R87, R89: the words refused are exactly the illegal ones. -/
theorem decodeCommand_error_iff (w : Word) :
    (∃ e, decodeCommand w = .error e) ↔ (w.extractLsb' 8 56 ≠ 0#56 ∨ 0x05 ≤ (w.extractLsb' 0 8).toNat) := by
  constructor
  · rintro ⟨e, he⟩
    by_contra hlegal
    simp only [not_or, not_le, not_not] at hlegal
    obtain ⟨op, hop⟩ := decodeCommand_of_legal hlegal.1 hlegal.2
    cases he.symm.trans hop
  · intro h
    exact decodeCommand_of_illegal h.symm

/-! ## Decoder and encoder -/

/-- Settles O1: by the constructors of the instruction, each transaction by its nine bits and each command by its word. -/
theorem decodeOfEncode : Obligations.DecodeOfEncode := by
  unfold Obligations.DecodeOfEncode
  intro i hwf
  cases i with
  | rd off width =>
    have hw : 0 < width := of_decide_eq_true hwf
    rw [encode, decode, decodeTransaction_read hw (kind_append 0#1 off), offset_append]
  | wr off width data =>
    have hw : 0 < width := of_decide_eq_true hwf
    rw [encode, decode, decodeTransaction_write hw (kind_append 1#1 off), offset_append]
  | nop => exact decode_commandWord .nop
  | sync => exact decode_commandWord .sync
  | update => exact decode_commandWord .update
  | lock => exact decode_commandWord .lock
  | abort => exact decode_commandWord .abort

/-- R83: a command is encoded as its word, and is well formed. -/
theorem encode_opcode (op : Opcode) : op.instr.WellFormed = true ∧ encode op.instr = .c (commandWord op) := by
  cases op <;> exact ⟨rfl, rfl⟩

/-- Settles O2: a transaction is put together again from KIND and OFF, and a command word is the only one of its command. -/
theorem encodeOfDecode : Obligations.EncodeOfDecode := by
  unfold Obligations.EncodeOfDecode
  intro f i h
  cases f with
  | t sel width data =>
    obtain ⟨hw, ⟨hk, rfl⟩ | ⟨hk, rfl⟩⟩ := decodeTransaction_cases h
    · refine ⟨decide_eq_true hw, .inl ?_⟩
      rw [encode, append_of_kind (by simpa using hk)]
    · refine ⟨decide_eq_true hw, .inr ⟨sel, width, data, rfl, hk, ?_⟩⟩
      rw [encode, append_of_kind (by simpa using hk)]
  | c w =>
    simp only [decode] at h
    split at h
    · rename_i op hop
      cases h
      obtain ⟨hwf, henc⟩ := encode_opcode op
      exact ⟨hwf, .inl (by rw [henc, ← eq_commandWord_of_decodeCommand hop])⟩
    · cases h

/-- Settles O3: a word selects the command whose word it is, or is refused. -/
theorem commandWordDecoderIsTotal : Obligations.CommandWordDecoderIsTotal := by
  unfold Obligations.CommandWordDecoderIsTotal
  intro w
  refine ⟨?_, decodeCommand_error_iff w⟩
  cases hw : decodeCommand w with
  | ok op => exact .inl ⟨op, rfl, eq_commandWord_of_decodeCommand hw⟩
  | error e =>
    refine .inr ⟨⟨e, rfl⟩, fun op hop => ?_⟩
    cases hw.symm.trans (decodeCommand_eq_ok_iff.mpr hop)

/-- Settles O4: the read and the write are what the encoder writes for them, and the others are the five command words. -/
theorem writtenOutFramesDecode : Obligations.WrittenOutFramesDecode := by
  unfold Obligations.WrittenOutFramesDecode
  exact ⟨decodeOfEncode (.rd 0x08#8 8) rfl, decodeOfEncode (.wr 0x70#8 8 0x3FF0000000000000#64) rfl,
    decode_commandWord .nop, decode_commandWord .sync, decode_commandWord .update, decode_commandWord .lock,
    decode_commandWord .abort⟩

/-- R155: performing a command word runs the instruction of its name. -/
theorem performCommand_commandWord (op : Opcode) (s : State) : performCommand (commandWord op) s = exec op.instr s := by
  simp only [performCommand, decodeCommand_commandWord, execOpcode_eq_exec]

/-- Settles O14: a write to CMD performs the word written, which is the command's. -/
theorem cmdWritePerformsCommand : Obligations.CmdWritePerformsCommand := by
  unfold Obligations.CmdWritePerformsCommand
  intro op s
  rw [exec_wr_cmd, performCommand_commandWord]

end Sys2Proof.Machine

/-! PROOFS of the statements on the step and the port: every step has a next state (R64, R72), the register map is one
to one (R21, R60), what the port refuses and what a write stores (R62, R63), what registers read as (R22, R24 to R28). -/

namespace Sys2Proof.Machine

/-! ## Every operation answers -/

/-- R64: a command answers OKAY, whatever its result code. -/
theorem execOpcode_okay (op : Opcode) (s : State) : ∃ t, execOpcode op s = .next (okayWrite t) := by
  cases op with
  | nop => exact ⟨_, rfl⟩
  | lock => exact ⟨_, rfl⟩
  | abort => exact ⟨_, rfl⟩
  | sync =>
    obtain hout | hin := le_or_gt s.cfg.nsPerS (tsOf s)
    · exact ⟨_, execSync_of_outOfRange hout⟩
    · exact ⟨_, execSync_of_inRange hin⟩
  | update =>
    cases hr : s.run with
    | false => exact ⟨_, execUpdate_of_halted hr⟩
    | true =>
      cases hb : s.biasLocked with
      | false => exact ⟨_, execUpdate_of_unlocked hr hb⟩
      | true =>
        cases ht : s.tsValid with
        | false => exact ⟨_, execUpdate_of_noTimestamp hr hb ht⟩
        | true => exact ⟨_, execUpdate_of_admitted ⟨hr, hb, ht⟩⟩

/-- R87, R155: a command word, legal or not, is answered OKAY. -/
theorem performCommand_okay (v : Word) (s : State) : ∃ t, performCommand v s = .next (okayWrite t) := by
  cases hv : decodeCommand v with
  | ok op =>
    obtain ⟨t, ht⟩ := execOpcode_okay op s
    exact ⟨t, by simpa [performCommand, hv] using ht⟩
  | error e => exact ⟨_, performCommand_of_error hv s⟩

/-- R63: the two grounds on which a write that reaches a register is refused. -/
def WriteRefused (r : Reg) (s : State) : Prop := regAccess r = .ro ∨ (regAccess r = .rwl ∧ s.biasLocked = true)

theorem writeReg_of_refused {r : Reg} {s : State} (h : WriteRefused r s) (v : Word) :
    writeReg r v s = .next (slverrWrite s) := by
  obtain hro | ⟨hrwl, hlocked⟩ := h
  · simp [writeReg, hro]
  · simp [writeReg, hrwl, hlocked]

/-- R62: a register write that is accepted stores the value. -/
theorem writeReg_of_stored {r : Reg} {s : State} (h : regAccess r = .rw ∨ (regAccess r = .rwl ∧ s.biasLocked = false))
    (v : Word) : writeReg r v s = .next (okayWrite (storeReg r v s)) := by
  obtain hrw | ⟨hrwl, hunlocked⟩ := h
  · simp [writeReg, hrw]
  · simp [writeReg, hrwl, hunlocked]

theorem writeReg_okay {r : Reg} {s : State} (h : ¬ WriteRefused r s) (v : Word) :
    ∃ t, writeReg r v s = .next (okayWrite t) := by
  cases hr : regAccess r with
  | wo =>
    obtain ⟨t, ht⟩ := performCommand_okay v s
    exact ⟨t, by simpa [writeReg, hr] using ht⟩
  | ro => exact absurd (.inl hr) h
  | rw => exact ⟨_, writeReg_of_stored (.inl hr) v⟩
  | rwl =>
    have hunlocked : s.biasLocked = false := by
      rw [Bool.eq_false_iff]
      exact fun hlocked => h (.inr ⟨hr, hlocked⟩)
    exact ⟨_, writeReg_of_stored (.inr ⟨hr, hunlocked⟩) v⟩

theorem execWr_of_target {off : Offset} {width : Nat} {r : Reg} (h : target off width = some r) (v : Word) (s : State) :
    execWr off width v s = writeReg r v s := by
  simp [execWr, h]

theorem execWr_of_noTarget {off : Offset} {width : Nat} (h : target off width = none) (v : Word) (s : State) :
    execWr off width v s = .next (slverrWrite s) := by
  simp [execWr, h]

theorem execRd_of_noTarget {off : Offset} {width : Nat} (h : target off width = none) (s : State) :
    execRd off width s = .next (slverrRead s) := by
  simp [execRd, h]

theorem execWr_answers (off : Offset) (width : Nat) (v : Word) (s : State) : ∃ t, execWr off width v s = .next t := by
  cases h : target off width with
  | none => exact ⟨_, execWr_of_noTarget h v s⟩
  | some r =>
    rw [execWr_of_target h]
    by_cases href : WriteRefused r s
    · exact ⟨_, writeReg_of_refused href v⟩
    · obtain ⟨t, ht⟩ := writeReg_okay href v
      exact ⟨_, ht⟩

theorem execRd_answers (off : Offset) (width : Nat) (s : State) : ∃ t, execRd off width s = .next t := by
  cases h : target off width with
  | none => exact ⟨_, execRd_of_noTarget h s⟩
  | some r => exact ⟨_, execRd_of_target h s⟩

/-- R63, R64, R170: every instruction ends in a next state. -/
theorem exec_answers (i : Instr) (s : State) : ∃ t, exec i s = .next t := by
  have hcommand : ∀ op : Opcode, ∃ t, exec op.instr s = .next t := fun op => by
    obtain ⟨t, ht⟩ := execOpcode_okay op s
    exact ⟨_, (execOpcode_eq_exec op s).symm.trans ht⟩
  cases i with
  | rd off width => exact execRd_answers off width s
  | wr off width v => exact execWr_answers off width v s
  | nop => exact hcommand .nop
  | sync => exact hcommand .sync
  | update => exact hcommand .update
  | lock => exact hcommand .lock
  | abort => exact hcommand .abort

/-! ## The step -/

/-- R72: a step whose item is a frame that decodes runs the instruction. -/
theorem step_of_frame {s : State} {f : Frame} {rest : List Event} {i : Instr} (he : s.inbox = .port f :: rest)
    (hf : decode f = .ok i) : step s = exec i (popInbox rest s) := by
  simp [step, he, performEvent, performFrame, hf]

theorem step_of_abortAsync {s : State} {rest : List Event} (he : s.inbox = .abortAsync :: rest) :
    step s = .next (halt (causeBit .abortAsync) (popInbox rest s)) := by
  simp [step, he, performEvent, abortEvent]

theorem step_of_idle {s : State} (he : s.inbox = []) : step s = .next s := by
  simp [step, he]

theorem step_of_undecoded {s : State} {f : Frame} {rest : List Event} {e : DecodeError} (he : s.inbox = .port f :: rest)
    (hf : decode f = .error e) : step s = .next (answerUndecoded f (popInbox rest s)) := by
  simp [step, he, performEvent, performFrame, hf]

/-- Settles O6: the step on a frame that decodes. -/
theorem stepRunsDecodedInstruction : Obligations.StepRunsDecodedInstruction := by
  unfold Obligations.StepRunsDecodedInstruction
  intro s f rest i he hf
  exact step_of_frame he hf

/-- A table word that is an instruction decodes to it as a frame. -/
theorem decode_tableFrame {nbits w : Nat} {i : Instr} (h : decodeTableWord nbits w = some i) :
    decode (tableFrame nbits w) = .ok i := by
  cases hd : decode (tableFrame nbits w) with
  | ok j =>
    simp only [decodeTableWord, hd, Option.ite_none_right_eq_some, Option.some.injEq] at h
    rw [h.right]
  | error e => simp [decodeTableWord, hd] at h

/-- Settles O7: the frame offered is the first item, and taking it out again gives the state back. -/
theorem tableWordRunsNext : Obligations.TableWordRunsNext := by
  unfold Obligations.TableWordRunsNext
  intro s nbits w i h
  exact step_of_frame (offer_inbox _ s) (decode_tableFrame h)

/-- Settles O8: by the item the step takes. -/
theorem everyStepHasANextState : Obligations.EveryStepHasANextState := by
  unfold Obligations.EveryStepHasANextState
  intro s
  cases he : s.inbox with
  | nil => exact ⟨_, step_of_idle he⟩
  | cons e rest =>
    cases e with
    | abortAsync => exact ⟨_, step_of_abortAsync he⟩
    | rst => exact ⟨_, step_of_rst he⟩
    | port f =>
      cases hf : decode f with
      | error err => exact ⟨_, step_of_undecoded he hf⟩
      | ok i =>
        obtain ⟨t, ht⟩ := exec_answers i (popInbox rest s)
        exact ⟨t, (step_of_frame he hf).trans ht⟩

/-- Settles O9: the step on an empty inbox. -/
theorem idleStepChangesNothing : Obligations.IdleStepChangesNothing := by
  unfold Obligations.IdleStepChangesNothing
  exact fun _ he => step_of_idle he

/-! ## The register map -/

/-- R60: slot k is at offset 8k. -/
theorem regOffset_of_slotReg {k : Nat} {r : Reg} (h : slotReg k = some r) : (regOffset r).toNat = 8 * k := by
  unfold slotReg at h
  split at h <;> cases h <;> rfl

/-- R21: 31 slots hold a register. -/
theorem slotReg_eq_none_iff (k : Nat) : slotReg k = none ↔ 31 ≤ k := by
  constructor
  · intro h
    by_contra hk
    have hlt : k < 31 := by omega
    interval_cases k <;> cases h
  · intro h
    obtain ⟨j, rfl⟩ := Nat.exists_eq_add_of_le' h
    rfl

/-- R60: a register is at its own offset and at no other. -/
theorem regAt_eq_some_iff (off : Offset) (r : Reg) : regAt off = some r ↔ off = regOffset r := by
  constructor
  · intro h
    unfold regAt at h
    split at h
    · have hoff := regOffset_of_slotReg h
      apply BitVec.eq_of_toNat_eq
      omega
    · cases h
  · rintro rfl
    exact regAt_regOffset r

/-- R63: the offsets that hold no register. -/
theorem regAt_eq_none_iff (off : Offset) : regAt off = none ↔ (off.toNat % 8 ≠ 0 ∨ off = 0xF8#8) := by
  have hoff := off.isLt
  have htop : off = 0xF8#8 ↔ off.toNat = 248 := BitVec.toNat_inj.symm
  rw [htop, regAt]
  split
  · rw [slotReg_eq_none_iff]
    omega
  · simp_all

/-- Settles O10: the table row by row, and the two halves of the map. -/
theorem registerMapIsOneToOne : Obligations.RegisterMapIsOneToOne := by
  unfold Obligations.RegisterMapIsOneToOne
  refine ⟨fun r => ?_, regAt_eq_some_iff, regAt_eq_none_iff⟩
  cases r <;> decide

/-- R63: a transaction reaches no register exactly for these offsets and widths. -/
theorem target_eq_none_iff (off : Offset) (width : Nat) :
    target off width = none ↔ (off.toNat % 8 ≠ 0 ∨ off = 0xF8#8 ∨ width ≠ 8) := by
  rw [← or_assoc, ← regAt_eq_none_iff, target]
  split <;> simp_all

/-- R63: a transaction that reaches a register is one of 8 bytes at its offset. -/
theorem target_eq_some_iff (off : Offset) (width : Nat) (r : Reg) :
    target off width = some r ↔ off = regOffset r ∧ width = 8 := by
  rw [← regAt_eq_some_iff, target]
  split <;> simp_all

/-! ## What the port refuses -/

/-- Settles O12: a transaction either reaches no register, or reaches one whose access class decides. -/
theorem refusedExactlyByTheListedConditions : Obligations.RefusedExactlyByTheListedConditions := by
  unfold Obligations.RefusedExactlyByTheListedConditions
  refine ⟨fun off width s => ?_, fun off width v s => ?_⟩
  · rw [← target_eq_none_iff]
    refine ⟨fun h => execRd_of_noTarget h s, fun h => ?_⟩
    obtain ⟨r, hr⟩ := Option.ne_none_iff_exists'.mp h
    exact ⟨_, readReg s r, execRd_of_target hr s, rfl⟩
  · have hsplit : (off.toNat % 8 ≠ 0 ∨ off = 0xF8#8 ∨ width ≠ 8 ∨ ∃ r, regAt off = some r ∧ WriteRefused r s) ↔
        (target off width = none ∨ ∃ r, regAt off = some r ∧ WriteRefused r s) := by
      rw [target_eq_none_iff, or_assoc, or_assoc]
    change ((_ ∨ _ ∨ _ ∨ ∃ r, regAt off = some r ∧ WriteRefused r s) → _) ∧
      (¬ (_ ∨ _ ∨ _ ∨ ∃ r, regAt off = some r ∧ WriteRefused r s) → _)
    rw [hsplit]
    cases ht : target off width with
    | none => exact ⟨fun _ => execWr_of_noTarget ht v s, fun h => absurd (.inl rfl) h⟩
    | some r =>
      have hr : regAt off = some r := (regAt_eq_some_iff off r).mpr ((target_eq_some_iff off width r).mp ht).left
      rw [exec_wr, execWr_of_target ht]
      constructor
      · rintro (h | ⟨q, hq, href⟩)
        · cases h
        · cases hr.symm.trans hq
          exact writeReg_of_refused href v
      · intro h
        obtain ⟨t, hacc⟩ := writeReg_okay (fun href => h (.inr ⟨r, hr, href⟩)) v
        exact ⟨_, hacc, rfl⟩

/-! ## What a register reads as -/

/-- R22: narrowing a value to `w` bits and widening it again clears the bits above. -/
theorem setWidth_setWidth_eq_and (w : Nat) (v : Word) : (v.setWidth w).setWidth 64 = v &&& (BitVec.allOnes w).setWidth 64 := by
  ext i hi
  by_cases hw : i < w
  · simp [hw, BitVec.getLsbD_eq_getElem hi]
  · simp [hw]

/-- R22: a field of `w` bits reads as zero above them. -/
theorem setWidth_and_not_mask {w : Nat} (x : BitVec w) : x.setWidth 64 &&& ~~~((BitVec.allOnes w).setWidth 64) = 0#64 := by
  ext i hi
  by_cases hw : i < w
  · simp [hw]
  · simp [BitVec.getLsbD_of_ge x i (by omega)]

/-- R62, R22: the register written reads as the value with the reserved bits cleared. -/
theorem readReg_storeReg_same {r : Reg} (h : regAccess r = .rw ∨ regAccess r = .rwl) (v : Word) (s : State) :
    readReg (storeReg r v s) r = v &&& fieldMask r := by
  have hfull : ∀ v : Word, v = v &&& 0xFFFFFFFFFFFFFFFF#64 := fun v => (BitVec.and_allOnes (x := v)).symm
  cases r
  case sampleAx | sampleAy | sampleAz | sampleGx | sampleGy | sampleGz => exact setWidth_setWidth_eq_and 16 v
  case ts => exact setWidth_setWidth_eq_and 30 v
  case sflags => exact setWidth_setWidth_eq_and 1 v
  case cmdchar => exact setWidth_setWidth_eq_and 9 v
  case live => exact setWidth_setWidth_eq_and 32 v
  case biasGx | biasGy | biasGz | biasRoll | biasPitch | biasAz => exact hfull v
  all_goals exact absurd h (by decide)

/-- R62: the other registers read as before. -/
theorem readReg_storeReg_ne {r q : Reg} (h : q ≠ r) (v : Word) (s : State) : readReg (storeReg r v s) q = readReg s q := by
  cases r <;> cases q <;> (try contradiction) <;> rfl

/-- The answer on the port is no register. -/
@[simp] theorem readReg_respond (k : RespCode) (d : Option Word) (s : State) (r : Reg) :
    readReg (respond k d s) r = readReg s r := by
  cases r <;> rfl

/-- Settles O13: the write is accepted, and what it stores is known register by register. -/
theorem writeStoresAndFrames : Obligations.WriteStoresAndFrames := by
  unfold Obligations.WriteStoresAndFrames
  intro r v s h
  refine ⟨okayWrite (storeReg r v s), ?_, ?_, fun q hq => ?_, ?_⟩
  · rw [exec_wr, execWr_of_target (target_regOffset r)]
    exact writeReg_of_stored h v
  · rw [okayWrite_eq, readReg_respond]
    exact readReg_storeReg_same (h.imp_right And.left) v s
  · rw [okayWrite_eq, readReg_respond, readReg_storeReg_ne hq]
  · obtain ⟨i, b, hib⟩ := storeReg_outside r v s
    rw [hib]
    rfl

/-- Settles O16: every register is a field of its width, and CMD is 0. -/
theorem reservedBitsReadZero : Obligations.ReservedBitsReadZero := by
  unfold Obligations.ReservedBitsReadZero
  intro r s
  have hfull : ∀ v : Word, v &&& ~~~0xFFFFFFFFFFFFFFFF#64 = 0#64 := fun v => BitVec.and_zero
  cases r
  case cmd => exact BitVec.zero_and
  case status => exact setWidth_and_not_mask (w := 3) _
  case err | faultCnt => exact setWidth_and_not_mask (w := 8) _
  case haltCause => exact setWidth_and_not_mask (w := 10) _
  case sampleAx | sampleAy | sampleAz | sampleGx | sampleGy | sampleGz => exact setWidth_and_not_mask (w := 16) _
  case ts | prevTs | dtNs => exact setWidth_and_not_mask (w := 30) _
  case sflags => exact setWidth_and_not_mask (w := 1) _
  case cmdchar => exact setWidth_and_not_mask (w := 9) _
  case live | livePrev | stallCnt => exact setWidth_and_not_mask (w := 32) _
  all_goals exact hfull _

/-- R24, R25, R26: the three low bits of STATUS. -/
theorem readReg_status_bits (s : State) :
    (readReg s .status).getLsbD 0 = s.run ∧ (readReg s .status).getLsbD 1 = s.biasLocked ∧
      (readReg s .status).getLsbD 2 = s.tsValid := by
  have hbits : ∀ v l r : Bool,
      ((BitVec.ofBool v ++ BitVec.ofBool l ++ BitVec.ofBool r).setWidth 64).getLsbD 0 = r ∧
      ((BitVec.ofBool v ++ BitVec.ofBool l ++ BitVec.ofBool r).setWidth 64).getLsbD 1 = l ∧
      ((BitVec.ofBool v ++ BitVec.ofBool l ++ BitVec.ofBool r).setWidth 64).getLsbD 2 = v := by decide
  exact hbits s.tsValid s.biasLocked s.run

/-- Settles O17: each bit of STATUS is one of three, and a widened field has its own bits and zeros above. -/
theorem statusBitsAndHaltOutput : Obligations.StatusBitsAndHaltOutput := by
  unfold Obligations.StatusBitsAndHaltOutput
  intro s
  obtain ⟨hrun, hlocked, hvalid⟩ := readReg_status_bits s
  refine ⟨hrun, hlocked, hvalid, fun i hi => ?_, ?_, fun i => ?_, ?_⟩
  · simp only [readReg, statusWord, BitVec.getLsbD_setWidth]
    rw [BitVec.getLsbD_of_ge _ _ (by omega), Bool.and_false]
  · have := s.err.isLt
    simp only [readReg, BitVec.toNat_setWidth]
    omega
  · by_cases hi : i < 64
    · simp [readReg, hi]
    · simp [readReg, BitVec.getLsbD_of_ge s.haltCause i (by omega)]
  · rw [hrun]
    rfl

end Sys2Proof.Machine

/-! PROOFS of the statements on the commands and on executions: what each command leaves unchanged (R84, R45), what can
halt the block or move its estimate, its inputs and its biases (R140, R38, R45), and what stays over every run. -/

namespace Sys2Proof.Machine

/-! ## The commands -/

/-- Settles O20: SYNC's two branches, field by field. -/
theorem syncLatchesTimestamp : Obligations.SyncLatchesTimestamp := by
  unfold Obligations.SyncLatchesTimestamp
  exact fun s => ⟨fun hin => execSync_of_inRange hin, fun hout => execSync_of_outOfRange hout⟩

/-- Settles O22: LOCK's meaning, field by field. -/
theorem lockSetsBiasLocked : Obligations.LockSetsBiasLocked := by
  unfold Obligations.LockSetsBiasLocked
  exact fun s => congrArg Host.Outcome.next (okayWrite_setErr .ok (lockBias s))

theorem exec_abort (s : State) : exec .abort s = .next (okayWrite (setErr .ok (halt (causeBit .abortCmd) s))) := rfl

/-- Settles O23: the latch moves only in RUNNING. -/
theorem abortHaltsOnce : Obligations.AbortHaltsOnce := by
  unfold Obligations.AbortHaltsOnce
  refine fun s => ⟨fun hr => ?_, fun hr => ?_⟩
  · rw [exec_abort, halt_of_run _ hr]
    rfl
  · rw [exec_abort, halt_of_halted _ hr]
    rfl

/-- Settles O30: the event is the latch with the cause ABORT_ASYNC. -/
theorem asyncAbortHalts : Obligations.AsyncAbortHalts := by
  unfold Obligations.AsyncAbortHalts
  refine fun s rest he => ⟨fun hr => ?_, fun hr => ?_⟩
  · have hpop : (popInbox rest s).run = true := hr
    rw [step_of_abortAsync he, halt_of_run _ hpop]
    rfl
  · have hpop : (popInbox rest s).run = false := hr
    rw [step_of_abortAsync he, halt_of_halted _ hpop]
    rfl

/-- R201: after `rst` STATUS reads 0x1 and every other register 0. -/
theorem readReg_resetBlock_status (s : State) : readReg (resetBlock s) .status = 0x1#64 := by
  rw [readReg, statusWord_eq_ofNat]
  rfl

theorem readReg_resetBlock_ne {r : Reg} (h : r ≠ .status) (s : State) : readReg (resetBlock s) r = 0#64 := by
  cases r <;> (try contradiction) <;> rfl

/-- Settles O31: the step is the reset of the block. -/
theorem resetRestoresEveryRegister : Obligations.ResetRestoresEveryRegister := by
  unfold Obligations.ResetRestoresEveryRegister
  intro s rest he
  exact ⟨_, step_of_rst he, rfl, readReg_resetBlock_status _, fun r hr => readReg_resetBlock_ne hr _⟩

/-! ## What each command leaves unchanged -/

/-- R84, R45: the frame of one command. -/
structure CommandFrame (op : Opcode) (s t : State) : Prop where
  outside : SameOutside s t
  cycle : op ≠ .update →
    t.est = s.est ∧ t.faultCnt = s.faultCnt ∧ t.livePrev = s.livePrev ∧ t.stallCnt = s.stallCnt ∧ t.draws = s.draws
  prevTs : op ≠ .update → op ≠ .sync → t.prevTs = s.prevTs
  tsValid : op ≠ .sync → t.tsValid = s.tsValid
  biasLocked : op ≠ .lock → t.biasLocked = s.biasLocked
  latch : op ≠ .update → op ≠ .abort → t.run = s.run ∧ t.haltCause = s.haltCause

/-- A command that only sets ERR and answers has every frame. -/
theorem commandFrame_setErr (op : Opcode) (c : ResultCode) (s : State) : CommandFrame op s (okayWrite (setErr c s)) :=
  ⟨⟨rfl, rfl, rfl, rfl⟩, fun _ => ⟨rfl, rfl, rfl, rfl, rfl⟩, fun _ _ => rfl, fun _ => rfl, fun _ => rfl,
    fun _ _ => ⟨rfl, rfl⟩⟩

theorem execOpcode_frame {op : Opcode} {s t : State} (h : execOpcode op s = .next t) : CommandFrame op s t := by
  cases op with
  | nop =>
    cases h
    exact commandFrame_setErr _ _ _
  | sync =>
    obtain ⟨-, rfl⟩ | ⟨-, rfl⟩ := execSync_cases h
    · exact commandFrame_setErr _ _ _
    · constructor <;> simp [SameOutside]
  | lock =>
    cases h
    constructor <;> simp [SameOutside]
  | abort =>
    cases h
    constructor <;> simp [SameOutside]
  | update =>
    obtain ⟨-, rfl⟩ | ⟨-, -, rfl⟩ | ⟨-, -, -, rfl⟩ | ⟨-, -, -, -, rfl⟩ | ⟨-, -, -, -, rfl⟩ := execUpdate_cases h
    · exact commandFrame_setErr _ _ _
    · exact commandFrame_setErr _ _ _
    · exact commandFrame_setErr _ _ _
    · constructor <;> simp [SameOutside, faultPath_eq]
    · constructor <;> simp [SameOutside, goodPath_eq]

/-- Settles O29: the frame of the command, opcode by opcode. -/
theorem commandFrames : Obligations.CommandFrames := by
  unfold Obligations.CommandFrames
  intro op s t h
  obtain ⟨houtside, hcycle, hprev, hvalid, hlocked, hlatch⟩ := execOpcode_frame ((execOpcode_eq_exec op s).trans h)
  exact ⟨houtside, hcycle, hprev, hvalid, hlocked, hlatch⟩

/-- R139, R160: which samples take the fault path. -/
theorem sampleFaulted_iff (s : State) :
    sampleFaulted s = true ↔ s.inputs.sfault = 1#1 ∨ s.cfg.nsPerS ≤ s.inputs.ts.toNat := by
  simp only [sampleFaulted, Bool.or_eq_true, decide_eq_true_eq]
  rfl

/-- R138, R160: which samples take the good path. -/
theorem sampleFaulted_eq_false_iff (s : State) : sampleFaulted s = false ↔ SampleGood s := by
  have hbit : ∀ b : BitVec 1, ¬ b = 1#1 ↔ b = 0#1 := by decide
  rw [← Bool.not_eq_true, sampleFaulted_iff, not_or, hbit, not_le]
  rfl

/-- R159, R138, R139: UPDATE moves the latch only where it is admitted, and the estimate only where the sample is good
too. -/
theorem execUpdate_moves {s t : State} (h : execUpdate s = .next t) :
    (t.run ≠ s.run → Admitted s) ∧ (t.est ≠ s.est → Admitted s ∧ SampleGood s) := by
  obtain ⟨-, rfl⟩ | ⟨-, -, rfl⟩ | ⟨-, -, -, rfl⟩ | ⟨hr, hb, ht, -, rfl⟩ | ⟨hr, hb, ht, hgood, rfl⟩ := execUpdate_cases h
  · simp
  · simp
  · simp
  · exact ⟨fun _ => ⟨hr, hb, ht⟩, fun hne => absurd (by simp [faultPath_eq]) hne⟩
  · exact ⟨fun _ => ⟨hr, hb, ht⟩, fun _ => ⟨⟨hr, hb, ht⟩, (sampleFaulted_eq_false_iff s).mp hgood⟩⟩

/-! ## What a step does -/

/-- The state in which the step's item is performed. -/
abbrev taken (s : State) : State := popInbox s.inbox.tail s

/-- R62: the registers the host can write at this moment. -/
def Writable (r : Reg) (s : State) : Prop := regAccess r = .rw ∨ (regAccess r = .rwl ∧ s.biasLocked = false)

/-- R72: everything one step can do. -/
inductive StepEffect (s : State) : State → Prop where
  | idle : s.inbox = [] → StepEffect s s
  | abortAsync : (∃ rest, s.inbox = .abortAsync :: rest) → StepEffect s (halt (causeBit .abortAsync) (taken s))
  | rst : (∃ rest, s.inbox = .rst :: rest) → StepEffect s (resetBlock (taken s))
  | answer (k : RespCode) (d : Option Word) : StepEffect s (respond k d (taken s))
  | illegal : StepEffect s (okayWrite (reject .illegal (taken s)))
  | store (r : Reg) (v : Word) : NextRuns s (.wr (regOffset r) 8 v) → Writable r s →
      StepEffect s (okayWrite (storeReg r v (taken s)))
  | command (op : Opcode) (t : State) : NextPerforms s op → execOpcode op (taken s) = .next t → StepEffect s t

/-- The effect of an instruction that the step runs. -/
theorem stepEffect_of_exec {s t : State} {i : Instr} (hi : NextRuns s i) (h : exec i (taken s) = .next t) :
    StepEffect s t := by
  have hcommand : ∀ op : Opcode, NextRuns s op.instr → exec op.instr (taken s) = .next t → StepEffect s t :=
    fun op hop hexec => .command op t (.inl hop) ((execOpcode_eq_exec op _).trans hexec)
  cases i with
  | rd off width =>
    obtain ⟨-, rfl⟩ | ⟨r, -, rfl⟩ := execRd_cases h
    · exact .answer _ _
    · exact .answer _ _
  | wr off width v =>
    obtain ⟨rfl, -⟩ | ⟨htarget, hcmd⟩ | ⟨r, htarget, hacc, rfl⟩ := execWr_cases h
    · exact .answer _ _
    · obtain ⟨rfl, rfl⟩ := (target_eq_some_iff off width .cmd).mp htarget
      obtain ⟨op, hop, hexec⟩ | ⟨e, -, rfl⟩ := performCommand_cases hcmd
      · obtain rfl := eq_commandWord_of_decodeCommand hop
        exact .command op t (.inr hi) hexec
      · exact .illegal
    · obtain ⟨rfl, rfl⟩ := (target_eq_some_iff off width r).mp htarget
      exact .store r v hi hacc
  | nop => exact hcommand .nop hi h
  | sync => exact hcommand .sync hi h
  | update => exact hcommand .update hi h
  | lock => exact hcommand .lock hi h
  | abort => exact hcommand .abort hi h

theorem stepEffect_of_step {s t : State} (h : step s = .next t) : StepEffect s t := by
  obtain ⟨hnil, rfl⟩ | ⟨rest, he, rfl⟩ | ⟨rest, he, rfl⟩ | ⟨f, rest, i, he, hf, hi⟩ | ⟨f, rest, e, he, -, rfl⟩ := step_cases h
  · exact .idle hnil
  · simpa [taken, he] using StepEffect.abortAsync ⟨rest, he⟩
  · simpa [taken, he] using StepEffect.rst ⟨rest, he⟩
  · exact stepEffect_of_exec ⟨f, rest, he, hf⟩ (by simpa [taken, he] using hi)
  · have htaken : popInbox rest s = taken s := by simp [taken, he]
    rw [htaken]
    cases f with
    | c w => exact .illegal
    | t sel width data =>
      simp only [answerUndecoded]
      split
      · exact .answer _ _
      · exact .answer _ _

/-! ## What can halt the block, and move its registers -/

/-- Settles O34: of what a step can do, only the abort event, ABORT and an admitted UPDATE clear RUN. -/
theorem onlyListedSourcesHalt : Obligations.OnlyListedSourcesHalt := by
  unfold Obligations.OnlyListedSourcesHalt
  intro s t hr h hhalt
  have hne : t.run ≠ s.run := by simp [hr, hhalt]
  cases stepEffect_of_step h with
  | idle hnil => exact absurd rfl hne
  | abortAsync he => exact .inl he
  | rst he => exact absurd hr.symm hne
  | answer k d => exact absurd rfl hne
  | illegal => exact absurd rfl hne
  | store r v hi hacc => exact absurd (by simp) hne
  | command op _ hop hexec =>
    by_cases habort : op = .abort
    · exact .inr (.inl (habort ▸ hop))
    by_cases hupdate : op = .update
    · subst hupdate
      exact .inr (.inr ⟨hop, (execUpdate_moves hexec).left hne⟩)
    · exact absurd ((execOpcode_frame hexec).latch hupdate habort).left hne

/-- Settles O36: of what a step can do, only `rst` and a good UPDATE write the estimate. -/
theorem estimateMovesOnlyInGoodUpdate : Obligations.EstimateMovesOnlyInGoodUpdate := by
  unfold Obligations.EstimateMovesOnlyInGoodUpdate
  intro s t h hne
  cases stepEffect_of_step h with
  | idle hnil => exact absurd rfl hne
  | abortAsync he => exact absurd (by simp) hne
  | rst he => exact .inl he
  | answer k d => exact absurd rfl hne
  | illegal => exact absurd rfl hne
  | store r v hi hacc => exact absurd (by simp) hne
  | command op _ hop hexec =>
    by_cases hupdate : op = .update
    · subst hupdate
      exact .inr ⟨hop, (execUpdate_moves hexec).right hne⟩
    · exact absurd ((execOpcode_frame hexec).cycle hupdate).left hne

/-- R36, R45: a bias write leaves the inputs. -/
theorem storeReg_inputs_of_rwl {r : Reg} (h : regAccess r = .rwl) (v : Word) (s : State) :
    (storeReg r v s).inputs = s.inputs := by
  cases r <;> first | rfl | exact absurd h (by simp [regAccess])

/-- R45: an input write leaves the biases. -/
theorem storeReg_bias_of_rw {r : Reg} (h : regAccess r = .rw) (v : Word) (s : State) :
    (storeReg r v s).bias = s.bias := by
  cases r <;> first | rfl | exact absurd h (by simp [regAccess])

/-- Settles O37: of what a step can do, only a stored write moves inputs or biases, each by a register of its class. -/
theorem inputsMoveOnlyByHostWrites : Obligations.InputsMoveOnlyByHostWrites := by
  unfold Obligations.InputsMoveOnlyByHostWrites
  intro s t h hrst
  have hkept : t.inputs = s.inputs → t.bias = s.bias →
      (t.inputs ≠ s.inputs → ∃ r v, regAccess r = .rw ∧ NextRuns s (.wr (regOffset r) 8 v)) ∧
      (t.bias ≠ s.bias → s.biasLocked = false ∧ ∃ r v, regAccess r = .rwl ∧ NextRuns s (.wr (regOffset r) 8 v)) :=
    fun hinputs hbias => ⟨fun hne => absurd hinputs hne, fun hne => absurd hbias hne⟩
  cases stepEffect_of_step h with
  | idle hnil => exact hkept rfl rfl
  | abortAsync he => exact hkept (by simp) (by simp)
  | rst he => exact absurd he.choose_spec (hrst _)
  | answer k d => exact hkept rfl rfl
  | illegal => exact hkept rfl rfl
  | store r v hi hacc =>
    obtain hrw | ⟨hrwl, hunlocked⟩ := hacc
    · refine ⟨fun _ => ⟨r, v, hrw, hi⟩, fun hne => absurd ?_ hne⟩
      exact storeReg_bias_of_rw hrw v (taken s)
    · refine ⟨fun hne => absurd ?_ hne, fun _ => ⟨hunlocked, r, v, hrwl, hi⟩⟩
      exact storeReg_inputs_of_rwl hrwl v (taken s)
  | command op _ hop hexec =>
    obtain ⟨-, hinputs, hbias, -⟩ := (execOpcode_frame hexec).outside
    exact hkept hinputs hbias

/-! ## Runs -/

/-- Settles O33: HALTED with its cause, and no `rst` to come, is kept by every step and so by every run. -/
theorem haltedForeverWithoutReset : Obligations.HaltedForeverWithoutReset := by
  unfold Obligations.HaltedForeverWithoutReset
  intro n s t hr hfree hrun
  have ht := core_run_keeps (step_keeps_haltedForGood s.haltCause) ⟨hr, rfl, hfree⟩ hrun
  exact ⟨ht.halted, ht.cause_eq⟩

/-- Every step takes its item out of the inbox and adds none. -/
theorem step_inbox {s t : State} (h : step s = .next t) : t.inbox = s.inbox.tail := by
  cases stepEffect_of_step h with
  | idle hnil => simp [hnil]
  | abortAsync he => simp
  | rst he => simp
  | answer k d => simp
  | illegal => simp
  | store r v hi hacc => simp
  | command op _ hop hexec =>
    obtain ⟨-, -, -, hinbox⟩ := (execOpcode_frame hexec).outside
    exact hinbox

/-- Locked with these biases, and no `rst` is to come (R25, R202). -/
structure LockedForGood (b : Bias) (s : State) : Prop where
  locked : s.biasLocked = true
  bias_eq : s.bias = b
  noRst : resetFree s.inbox = true

/-- No command clears BIAS_LOCKED. -/
theorem execOpcode_keeps_locked {op : Opcode} {s t : State} (hl : s.biasLocked = true) (h : execOpcode op s = .next t) :
    t.biasLocked = true := by
  by_cases hop : op = .lock
  · subst hop
    cases h
    rfl
  · exact ((execOpcode_frame h).biasLocked hop).trans hl

theorem step_keeps_lockedForGood (b : Bias) (s t : State) (hs : LockedForGood b s) (h : step s = .next t) :
    LockedForGood b t := by
  obtain ⟨hlocked, hbias, hfree⟩ := hs
  have hnoRst : resetFree t.inbox = true := by
    rw [step_inbox h]
    exact resetFree_tail hfree
  cases stepEffect_of_step h with
  | idle hnil => exact ⟨hlocked, hbias, hfree⟩
  | abortAsync he => exact ⟨by simpa using hlocked, by simpa using hbias, hnoRst⟩
  | rst he => exact absurd he.choose_spec (head_ne_rst_of_resetFree hfree _)
  | answer k d => exact ⟨hlocked, hbias, hnoRst⟩
  | illegal => exact ⟨hlocked, hbias, hnoRst⟩
  | store r v hi hacc =>
    have hrw : regAccess r = .rw := hacc.resolve_right fun hrwl => by simp [hlocked] at hrwl
    exact ⟨by simpa using hlocked, (storeReg_bias_of_rw hrw v (taken s)).trans hbias, hnoRst⟩
  | command op _ hop hexec =>
    obtain ⟨-, -, hsame, -⟩ := (execOpcode_frame hexec).outside
    exact ⟨execOpcode_keeps_locked (s := taken s) hlocked hexec, hsame.trans hbias, hnoRst⟩

/-- Settles O38: the lock and its biases are kept by every step and so by every run. -/
theorem biasImmutableAfterLock : Obligations.BiasImmutableAfterLock := by
  unfold Obligations.BiasImmutableAfterLock
  intro n s t hlocked hfree hrun
  have ht := core_run_keeps (step_keeps_lockedForGood s.bias) ⟨hlocked, rfl, hfree⟩ hrun
  exact ⟨ht.locked, ht.bias_eq⟩

/-! ## Transactions done twice -/

@[simp] theorem respond_respond (k k' : RespCode) (d d' : Option Word) (s : State) :
    respond k d (respond k' d' s) = respond k d s := rfl

theorem storeReg_respond (r : Reg) (v : Word) (k : RespCode) (d : Option Word) (s : State) :
    storeReg r v (respond k d s) = respond k d (storeReg r v s) := by
  cases r <;> rfl

theorem storeReg_storeReg (r : Reg) (v : Word) (s : State) : storeReg r v (storeReg r v s) = storeReg r v s := by
  cases r <;> rfl

/-- R69: a read repeated. -/
theorem execRd_idempotent {off : Offset} {width : Nat} {s t : State} (h : execRd off width s = .next t) :
    execRd off width t = .next t := by
  obtain ⟨hnone, rfl⟩ | ⟨r, hr, rfl⟩ := execRd_cases h
  · exact execRd_of_noTarget hnone _
  · rw [execRd_of_target hr, okayRead_eq, readReg_respond]
    rfl

/-- R69: a register write repeated. -/
theorem execWr_idempotent {off : Offset} {width : Nat} {v : Word} {s t : State} (hoff : off ≠ regOffset .cmd)
    (h : execWr off width v s = .next t) : execWr off width v t = .next t := by
  obtain ⟨rfl, hnone | ⟨r, hr, href⟩⟩ | ⟨hcmd, -⟩ | ⟨r, hr, hacc, rfl⟩ := execWr_cases h
  · exact execWr_of_noTarget hnone v _
  · have hagain : WriteRefused r (slverrWrite s) := by simpa [WriteRefused] using href
    rw [execWr_of_target hr, writeReg_of_refused hagain]
    simp only [slverrWrite_eq, respond_respond]
  · exact absurd ((target_eq_some_iff off width .cmd).mp hcmd).left hoff
  · have hagain : Writable r (okayWrite (storeReg r v s)) := by simpa [Writable] using hacc
    have hsame : okayWrite (storeReg r v (okayWrite (storeReg r v s))) = okayWrite (storeReg r v s) := by
      simp only [okayWrite_eq, storeReg_respond, storeReg_storeReg, respond_respond]
    rw [execWr_of_target hr, writeReg_of_stored hagain, hsame]

/-- Settles O18: reads and writes by the ways they end, SYNC by R158, and the other commands find their work done. -/
theorem idempotentTransactions : Obligations.IdempotentTransactions := by
  unfold Obligations.IdempotentTransactions
  intro i s t hupdate hcmd h
  cases i with
  | rd off width => exact execRd_idempotent h
  | wr off width v =>
    refine execWr_idempotent (fun hoff => hcmd width v ?_) h
    rw [hoff]
  | nop =>
    cases h
    rfl
  | sync => exact execSync_idempotent h
  | update => exact absurd rfl hupdate
  | lock =>
    cases h
    rfl
  | abort =>
    cases h
    rw [exec_abort, halt_of_halted _ (by simp)]
    rfl

end Sys2Proof.Machine

/-! PROOFS of the statements on UPDATE: which values a good UPDATE commits, up to which NaN a NaN is (R100 to R118), on
which conditions either path halts (R134 to R139), and what UPDATE does not depend on (R37, R139). -/

namespace Sys2Proof.Machine

/-! ## The same datum, up to which NaN it is -/

theorem SameDatum.refl (a : F64) : SameDatum a a := .inl rfl

/-- R11: an operator that gives a NaN for a NaN operand, and whose free index matters to a NaN only, respects it. -/
theorem SameDatum.congr {op : Nat → F64 → F64 → F64}
    (hnan : ∀ d a b, isNaN a = true ∨ isNaN b = true → isNaN (op d a b) = true)
    (hindex : ∀ d e a b, SameDatum (op d a b) (op e a b)) {a a' b b' : F64} (ha : SameDatum a a') (hb : SameDatum b b')
    (d e : Nat) : SameDatum (op d a b) (op e a' b') := by
  obtain rfl | ⟨ha, ha'⟩ := ha
  · obtain rfl | ⟨hb, hb'⟩ := hb
    · exact hindex d e a b
    · exact .inr ⟨hnan d _ _ (.inr hb), hnan e _ _ (.inr hb')⟩
  · exact .inr ⟨hnan d _ _ (.inl ha), hnan e _ _ (.inl ha')⟩

theorem sameDatum_freeNaN (d e : Nat) : SameDatum (freeNaN d) (freeNaN e) :=
  .inr ⟨isNaN_freeNaN d, isNaN_freeNaN e⟩

theorem isNaN_fadd_of_nan {a b : F64} (d : Nat) (h : isNaN a = true ∨ isNaN b = true) : isNaN (fadd d a b) = true := by
  simp [fadd, h]

theorem isNaN_fmul_of_nan {a b : F64} (d : Nat) (h : isNaN a = true ∨ isNaN b = true) : isNaN (fmul d a b) = true := by
  simp [fmul, h]

theorem isNaN_fdiv_of_nan {a b : F64} (d : Nat) (h : isNaN a = true ∨ isNaN b = true) : isNaN (fdiv d a b) = true := by
  simp [fdiv, h]

/-- The free index of `+f` matters to a NaN only. -/
theorem fadd_index (d e : Nat) (a b : F64) : SameDatum (fadd d a b) (fadd e a b) := by
  unfold fadd
  split_ifs
  · exact sameDatum_freeNaN d e
  · exact sameDatum_freeNaN d e
  all_goals exact .refl _

/-- The free index of `*f` matters to a NaN only. -/
theorem fmul_index (d e : Nat) (a b : F64) : SameDatum (fmul d a b) (fmul e a b) := by
  unfold fmul
  split_ifs
  · exact sameDatum_freeNaN d e
  · exact sameDatum_freeNaN d e
  all_goals exact .refl _

/-- The free index of `/f` matters to a NaN only. -/
theorem fdiv_index (d e : Nat) (a b : F64) : SameDatum (fdiv d a b) (fdiv e a b) := by
  unfold fdiv
  split_ifs
  case pos => exact sameDatum_freeNaN d e
  all_goals first | exact .refl _ | exact sameDatum_freeNaN d e

theorem refAtan2_index (d e : Nat) (y x : F64) : SameDatum (refAtan2 d y x) (refAtan2 e y x) := by
  unfold refAtan2
  split_ifs
  · exact sameDatum_freeNaN d e
  · exact .refl _

theorem atan2Of_index (c : Config) (d e : Nat) (y x : F64) : SameDatum (atan2Of c d y x) (atan2Of c e y x) := by
  cases hc : c.atan2 with
  | reference => simpa only [atan2Of, hc] using refAtan2_index d e y x
  | other => simpa only [atan2Of, hc] using SameDatum.refl _

theorem SameDatum.fadd {a a' b b' : F64} (ha : SameDatum a a') (hb : SameDatum b b') (d e : Nat) :
    SameDatum (fadd d a b) (fadd e a' b') :=
  .congr (fun d _ _ => isNaN_fadd_of_nan d) fadd_index ha hb d e

theorem SameDatum.fmul {a a' b b' : F64} (ha : SameDatum a a') (hb : SameDatum b b') (d e : Nat) :
    SameDatum (fmul d a b) (fmul e a' b') :=
  .congr (fun d _ _ => isNaN_fmul_of_nan d) fmul_index ha hb d e

theorem SameDatum.fdiv {a a' b b' : F64} (ha : SameDatum a a') (hb : SameDatum b b') (d e : Nat) :
    SameDatum (fdiv d a b) (fdiv e a' b') :=
  .congr (fun d _ _ => isNaN_fdiv_of_nan d) fdiv_index ha hb d e

theorem SameDatum.fsub {a a' : F64} (ha : SameDatum a a') (b : F64) (d e : Nat) :
    SameDatum (fsub d a b) (fsub e a' b) :=
  ha.fadd (.refl _) d e

theorem fle_eq_false_of_nan {a b : F64} (h : isNaN a = true ∨ isNaN b = true) : fle a b = false := by
  obtain h | h := h <;> simp [fle, h]

/-- R131, R133: a condition does not tell one NaN from another. -/
theorem exceeds_congr {a b : F64} (h : SameDatum a b) (limit : F64) : exceeds a limit = exceeds b limit := by
  obtain rfl | ⟨ha, hb⟩ := h
  · rfl
  · rw [exceeds, exceeds, fle_eq_false_of_nan (.inl (by simpa using ha)), fle_eq_false_of_nan (.inl (by simpa using hb))]

/-! ## What a good UPDATE commits -/

theorem exec_update_of_good {s : State} (hadm : Admitted s) (hgood : SampleGood s) :
    exec .update s = .next (okayWrite (goodPath s)) := by
  have h := execUpdate_of_admitted hadm
  rw [(sampleFaulted_eq_false_iff s).mpr hgood, if_neg Bool.false_ne_true] at h
  exact h

theorem exec_update_of_faulted {s : State} (hadm : Admitted s)
    (hfault : s.inputs.sfault = 1#1 ∨ s.cfg.nsPerS ≤ s.inputs.ts.toNat) :
    exec .update s = .next (okayWrite (faultPath s)) := by
  have h := execUpdate_of_admitted hadm
  rw [(sampleFaulted_iff s).mpr hfault, if_pos rfl] at h
  exact h

/-- R118: the estimate and the telemetry that a good UPDATE leaves. -/
theorem goodPath_est (s : State) :
    (okayWrite (goodPath s)).est =
      { roll := fuse s.cfg (s.draws + 19) (accelRoll s) (deltaAngle (s.draws + 17) (rollRate s) (updateSeconds s)) s.est.roll
        pitch :=
          fuse s.cfg (s.draws + 23) (accelPitch s) (deltaAngle (s.draws + 18) (pitchRate s) (updateSeconds s)) s.est.pitch
        accRoll := accelRoll s
        accPitch := accelPitch s
        gyroRollRate := rollRate s
        gyroPitchRate := pitchRate s
        dtNs := BitVec.ofInt 30 (updateDelta s) } := by
  simp only [okayWrite_eq, respond_est, goodPath_eq, commit_est, filter]

@[simp] theorem goodPath_cfg (s : State) : (goodPath s).cfg = s.cfg := by simp [goodPath_eq]

@[simp] theorem faultPath_cfg (s : State) : (faultPath s).cfg = s.cfg := by simp [faultPath_eq]

/-- R101, R102: a physical rate with one index for both operators. -/
theorem sameDatum_gyroRate (c : Config) (d e : Nat) (w : BitVec 16) :
    SameDatum (gyroRate c d w) (fdiv e (fmul e (f64OfInt (raw w)) c.gyroFsr) c.halfRange) :=
  (fmul_index d e _ _).fdiv (.refl _) _ _

theorem sameDatum_rollRate (s : State) (e : Nat) :
    SameDatum (rollRate s) (fsub e (fdiv e (fmul e (f64OfInt (raw s.inputs.sampleGy)) s.cfg.gyroFsr) s.cfg.halfRange) s.bias.gy) := by
  unfold rollRate debiasRate
  exact (sameDatum_gyroRate _ _ e _).fsub _ _ _

theorem sameDatum_pitchRate (s : State) (e : Nat) :
    SameDatum (pitchRate s) (fsub e (fdiv e (fmul e (f64OfInt (raw s.inputs.sampleGx)) s.cfg.gyroFsr) s.cfg.halfRange) s.bias.gx) := by
  unfold pitchRate debiasRate
  exact (sameDatum_gyroRate _ _ e _).fsub _ _ _

/-- R112: an inclination with one index for its three operators. -/
theorem sameDatum_incl (c : Config) (d e : Nat) (num az : Int) :
    SameDatum (incl c d num az)
      (fdiv e (fmul e (atan2Of c e (f64OfInt num) (f64OfInt (-az))) c.degNum) c.pi) :=
  ((atan2Of_index c d e _ _).fmul (.refl _) _ _).fdiv (.refl _) _ _

/-- R114: the integrated angle with one index for its operators. -/
theorem sameDatum_deltaAngle (s : State) (d e : Nat) (rate : F64) :
    SameDatum (deltaAngle d rate (updateSeconds s))
      (fmul e rate (fdiv e (f64OfInt (updateDelta s)) (f64OfInt s.cfg.nsPerS))) := by
  unfold deltaAngle updateSeconds dtSeconds
  exact SameDatum.fmul (.refl _) (fdiv_index _ e _ _) _ _

theorem sameDatum_accelRoll (s : State) (e : Nat) :
    SameDatum (accelRoll s)
      (fadd e (negf s.bias.roll)
        (fdiv e
          (fmul e (atan2Of s.cfg e (f64OfInt (raw s.inputs.sampleAy)) (f64OfInt (-raw s.inputs.sampleAz))) s.cfg.degNum)
          s.cfg.pi)) := by
  unfold accelRoll debiasAngle
  exact SameDatum.fadd (.refl _) (sameDatum_incl _ _ e _ _) _ _

theorem sameDatum_accelPitch (s : State) (e : Nat) :
    SameDatum (accelPitch s)
      (fadd e (negf s.bias.pitch)
        (fdiv e
          (fmul e (atan2Of s.cfg e (f64OfInt (raw s.inputs.sampleAx)) (f64OfInt (-raw s.inputs.sampleAz))) s.cfg.degNum)
          s.cfg.pi)) := by
  unfold accelPitch debiasAngle
  exact SameDatum.fadd (.refl _) (sameDatum_incl _ _ e _ _) _ _

/-- R115: the multiplicative recurrence with one index for its operators. -/
theorem sameDatum_fuse_multiplicative {c : Config} (hc : c.fusion = .multiplicative) (d e : Nat) (accel prev : F64)
    {delta delta' : F64} (hdelta : SameDatum delta delta') :
    SameDatum (fuse c d accel delta prev)
      (fadd e (fmul e accel c.alpha) (fmul e c.oneMinusAlpha (fmul e delta' prev))) := by
  simp only [fuse, hc]
  exact (fmul_index d e _ _).fadd (SameDatum.fmul (.refl _) (hdelta.fmul (.refl _) _ _) _ _) _ _

/-- R116: the additive recurrence with one index for its operators. -/
theorem sameDatum_fuse_additive {c : Config} (hc : c.fusion = .additive) (d e : Nat) (accel prev : F64)
    {delta delta' : F64} (hdelta : SameDatum delta delta') :
    SameDatum (fuse c d accel delta prev)
      (fadd e (fmul e accel c.alpha) (fmul e c.oneMinusAlpha (fadd e prev delta'))) := by
  simp only [fuse, hc]
  exact (fmul_index d e _ _).fadd (SameDatum.fmul (.refl _) (SameDatum.fadd (.refl _) hdelta _ _) _ _) _ _

/-- Settles O25: the good path commits the filter, and each of its values is the written-out one with other indices. -/
theorem goodUpdateCommitsTheFilter : Obligations.GoodUpdateCommitsTheFilter := by
  unfold Obligations.GoodUpdateCommitsTheFilter
  intro s hadm hgood delta
  have hdelta : updateDelta s = delta := rfl
  clear_value delta
  subst hdelta
  refine ⟨_, exec_update_of_good hadm hgood, fun d => ?_, ?_⟩
  · rw [goodPath_est]
    dsimp only
    refine ⟨?_, ?_, ?_, ?_, fun hc => ⟨?_, ?_⟩, fun hc => ⟨?_, ?_⟩⟩
    · exact sameDatum_accelRoll s d
    · exact sameDatum_accelPitch s d
    · exact sameDatum_rollRate s d
    · exact sameDatum_pitchRate s d
    · exact sameDatum_fuse_multiplicative hc _ d _ _ (sameDatum_deltaAngle s _ d _)
    · exact sameDatum_fuse_multiplicative hc _ d _ _ (sameDatum_deltaAngle s _ d _)
    · exact sameDatum_fuse_additive hc _ d _ _ (sameDatum_deltaAngle s _ d _)
    · exact sameDatum_fuse_additive hc _ d _ _ (sameDatum_deltaAngle s _ d _)
  · simp only [goodPath_eq]
    exact ⟨rfl, rfl, rfl, rfl, rfl, ⟨rfl, rfl, rfl, rfl⟩, rfl, rfl⟩

/-! ## The masks and the latch -/

/-- R28: the ten causes are at the ten bits. -/
theorem exists_causePos {i : Nat} (hi : i < 10) : ∃ c, causePos c = i := by
  have hall : ∀ i : Fin 10, ∃ c ∈ [HaltCause.abortCmd, .abortAsync, .stopChar, .roll, .pitch, .gyroX, .gyroY, .gyroZ,
      .transport, .liveness], causePos c = i := by decide
  obtain ⟨c, -, hc⟩ := hall ⟨i, hi⟩
  exact ⟨c, hc⟩

/-- R28: a mask is known by the bits of the causes. -/
theorem mask_eq_iff (m n : BitVec 10) : m = n ↔ ∀ c, m.getLsbD (causePos c) = n.getLsbD (causePos c) := by
  refine ⟨fun h c => by rw [h], fun h => BitVec.eq_of_getLsbD_eq fun i hi => ?_⟩
  obtain ⟨c, rfl⟩ := exists_causePos hi
  exact h c

/-- R136, R139: the block halts exactly when a condition holds, and records the ones that do. -/
structure HaltsOn (s t : State) (cond : HaltCause → Bool) : Prop where
  run_iff : t.run = false ↔ ∃ c, cond c = true
  cause : t.run = false → ∀ c, t.haltCause.getLsbD (causePos c) = cond c
  kept : t.run = true → t.haltCause = s.haltCause

/-- R136, R139, R141: the latch on a mask whose bits are the conditions. -/
theorem haltsOn_of_mask {s t : State} {m : BitVec 10} {cond : HaltCause → Bool}
    (hrun : t.run = if m = 0#10 then true else false) (hcause : t.haltCause = if m = 0#10 then s.haltCause else m)
    (hm : ∀ c, m.getLsbD (causePos c) = cond c) : HaltsOn s t cond := by
  have hzero : m = 0#10 ↔ ∀ c, cond c = false := by simp [mask_eq_iff, hm]
  by_cases h : m = 0#10
  · rw [if_pos h] at hrun hcause
    have hnone := hzero.mp h
    exact ⟨by simp [hrun, hnone], fun hhalt => absurd hrun (by simp [hhalt]), fun _ => hcause⟩
  · rw [if_neg h] at hrun hcause
    refine ⟨?_, fun _ c => by rw [hcause, hm], fun hrunning => absurd hrun (by simp [hrunning])⟩
    simpa [hrun] using fun hall => h (hzero.mpr hall)

/-- R134: the stop condition is that CMDCHAR holds VALID and the token. -/
theorem violStop_eq_decide (s : State) : violStop s = decide (s.inputs.cmdchar = 1#1 ++ s.cfg.stopByte) := by
  have hsplit : s.inputs.cmdchar = 1#1 ++ s.cfg.stopByte ↔
      s.inputs.cmdchar.getLsbD 8 = true ∧ s.inputs.cmdchar.extractLsb' 0 8 = s.cfg.stopByte := by
    constructor
    · intro h
      rw [h]
      exact ⟨kind_append _ _, offset_append _ _⟩
    · rintro ⟨hvalid, hchar⟩
      rw [← hchar, append_of_kind (by simpa using hvalid)]
  simp only [hsplit, Bool.decide_and, Bool.decide_eq_true]
  rfl

/-- R133: the gyro condition does not depend on the free index. -/
theorem violGyro_index (c : Config) (d e : Nat) (w : BitVec 16) :
    violGyro c (gyroRate c d w) = violGyro c (gyroRate c e w) :=
  exceeds_congr ((fmul_index _ _ _ _).fdiv (.refl _) _ _) _

theorem violLive_eq_decide {s : State} {c : Config} (hc : s.cfg = c) :
    violLive s = decide (0 < c.livenessTimeout.toNat ∧ c.livenessTimeout.toNat ≤ s.stallCnt.toNat) := by
  subst hc
  simp [violLive]

theorem violTransport_eq_decide {s : State} {c : Config} (hc : s.cfg = c) :
    violTransport s = decide (c.faultHaltCount.toNat ≤ s.faultCnt.toNat) := by
  subst hc
  rfl

theorem violStop_congr {s t : State} (hinputs : t.inputs = s.inputs) (hcfg : t.cfg = s.cfg) : violStop t = violStop s := by
  rw [violStop_eq_decide, violStop_eq_decide, hinputs, hcfg]

/-- R136: the mask of a good UPDATE has the bits of the conditions that hold of the sample and of the state it leaves. -/
theorem goodMask_causePos (s : State) (c : HaltCause) :
    (goodMask (filter s).gx (filter s).gy (filter s).gz (goodCommitted s)).getLsbD (causePos c) =
      goodCondition s (okayWrite (goodPath s)) c := by
  simp only [goodMask, BitVec.getLsbD_or, flag_getLsbD]
  cases c with
  | abortCmd => simp [causePos, goodCondition]
  | abortAsync => simp [causePos, goodCondition]
  | transport => simp [causePos, goodCondition]
  | stopChar =>
    simpa [causePos, goodCondition] using violStop_congr (s := s) (t := goodCommitted s) rfl rfl
  | roll => simp [causePos, goodCondition, violRoll, goodPath]
  | pitch => simp [causePos, goodCondition, violPitch, goodPath]
  | gyroX => simpa [causePos, goodCondition, goodCommitted, filter] using violGyro_index _ _ 0 _
  | gyroY => simpa [causePos, goodCondition, goodCommitted, filter] using violGyro_index _ _ 0 _
  | gyroZ => simpa [causePos, goodCondition, goodCommitted, filter] using violGyro_index _ _ 0 _
  | liveness => simp [causePos, goodCondition, violLive, goodPath]

/-- R139: the mask of a faulted UPDATE has the bits of its three conditions. -/
theorem faultMask_causePos (s : State) (c : HaltCause) :
    (faultMask (faultCounted s)).getLsbD (causePos c) = faultCondition s (okayWrite (faultPath s)) c := by
  simp only [faultMask, BitVec.getLsbD_or, flag_getLsbD]
  cases c with
  | stopChar =>
    simpa [causePos, faultCondition] using violStop_congr (s := s) (t := faultCounted s) rfl rfl
  | transport => simp [causePos, faultCondition, violTransport, faultPath]
  | liveness => simp [causePos, faultCondition, violLive, faultPath]
  | _ => simp [causePos, faultCondition]

theorem goodPath_haltsOn {s : State} (hr : s.run = true) :
    HaltsOn s (okayWrite (goodPath s)) (goodCondition s (okayWrite (goodPath s))) :=
  haltsOn_of_mask (by simp [goodPath_eq, hr]) (by simp [goodPath_eq, hr]) (goodMask_causePos s)

theorem faultPath_haltsOn {s : State} (hr : s.run = true) :
    HaltsOn s (okayWrite (faultPath s)) (faultCondition s (okayWrite (faultPath s))) :=
  haltsOn_of_mask (by simp [faultPath_eq, hr]) (by simp [faultPath_eq, hr]) (faultMask_causePos s)

/-- Settles O26: the latch of the good path, each of its bits written out. -/
theorem goodUpdateHaltsOnEveryCondition : Obligations.GoodUpdateHaltsOnEveryCondition := by
  unfold Obligations.GoodUpdateHaltsOnEveryCondition
  intro s hadm hgood rate
  obtain ⟨hrun, hcause, hkept⟩ := goodPath_haltsOn hadm.left
  refine ⟨_, exec_update_of_good hadm hgood, hrun, hcause, fun hhalt => ?_, hkept⟩
  have hgyro : ∀ w, violGyro s.cfg (gyroRate s.cfg 0 w) = !fle (fabs (rate w)) s.cfg.gyroLimit :=
    fun w => exceeds_congr (sameDatum_gyroRate _ _ 0 w) _
  have hbit := hcause hhalt
  exact ⟨hbit .abortCmd, hbit .abortAsync, (hbit .stopChar).trans (violStop_eq_decide s),
    (hbit .roll).trans (by simp [goodCondition, violRoll, exceeds]),
    (hbit .pitch).trans (by simp [goodCondition, violPitch, exceeds]), (hbit .gyroX).trans (hgyro _), (hbit .gyroY).trans (hgyro _), (hbit .gyroZ).trans (hgyro _), hbit .transport,
    (hbit .liveness).trans (violLive_eq_decide (by simp))⟩

/-- R139: a mask with the bits of a fault's conditions has no other bit. -/
theorem faultCondition_reserved {m : BitVec 10} {s t : State} (h : ∀ c, m.getLsbD (causePos c) = faultCondition s t c) :
    m &&& 0x0FB#10 = 0#10 := by
  rw [mask_eq_iff]
  intro c
  rw [BitVec.getLsbD_and, h]
  cases c with
  | stopChar => simp [causePos]
  | transport => simp [causePos]
  | liveness => simp [causePos]
  | _ => simp [faultCondition]

/-- Settles O27: the fault path field by field, and its latch. -/
theorem faultedUpdateHoldsTheEstimate : Obligations.FaultedUpdateHoldsTheEstimate := by
  unfold Obligations.FaultedUpdateHoldsTheEstimate
  intro s hadm hfault
  obtain ⟨hrun, hcause, hkept⟩ := faultPath_haltsOn hadm.left
  refine ⟨_, exec_update_of_faulted hadm hfault, by simp [faultPath_eq], by simp [faultPath_eq], by simp [faultPath_eq],
    by simp [faultPath_eq], fun h => by simp [faultPath_eq, faultCode, h, resultCode],
    fun h => by simp [faultPath_eq, faultCode, h, resultCode], hrun, hcause, fun hhalt => ?_, hkept,
    by simp, by simp [SameOutside, faultPath_eq], by simp [faultPath_eq], by simp [faultPath_eq]⟩
  have hbit := hcause hhalt
  exact ⟨faultCondition_reserved hbit, (hbit .stopChar).trans (violStop_eq_decide s), 
    (hbit .transport).trans (violTransport_eq_decide (by simp)),
    (hbit .liveness).trans (violLive_eq_decide (by simp))⟩

/-! ## The stop character -/

/-- R134, R138, R139: either path of an admitted UPDATE halts with STOP_CHAR exactly on the stop condition. -/
theorem execUpdate_stop {s : State} (hadm : Admitted s) :
    ∃ t, exec .update s = .next t ∧ (violStop s = true → t.run = false) ∧
      (t.run = false → t.haltCause.getLsbD 2 = violStop s) := by
  have hr : s.run = true := hadm.left
  cases hf : sampleFaulted s with
  | true =>
    obtain ⟨hrun, hcause, -⟩ := faultPath_haltsOn hr
    exact ⟨_, exec_update_of_faulted hadm ((sampleFaulted_iff s).mp hf), fun h => hrun.mpr ⟨.stopChar, h⟩,
      fun hhalt => hcause hhalt .stopChar⟩
  | false =>
    obtain ⟨hrun, hcause, -⟩ := goodPath_haltsOn hr
    exact ⟨_, exec_update_of_good hadm ((sampleFaulted_eq_false_iff s).mp hf), fun h => hrun.mpr ⟨.stopChar, h⟩,
      fun hhalt => hcause hhalt .stopChar⟩

/-- R134: no step but an admitted UPDATE that saw the token halts with the STOP_CHAR bit. -/
theorem step_stopChar {s t : State} (hr : s.run = true) (h : step s = .next t) (hhalt : t.run = false)
    (hbit : t.haltCause.getLsbD 2 = true) : NextPerforms s .update ∧ Admitted s ∧ violStop s = true := by
  have hne : t.run ≠ s.run := by simp [hr, hhalt]
  cases stepEffect_of_step h with
  | idle hnil => exact absurd rfl hne
  | abortAsync he =>
    rw [halt_haltCause, popInbox_run, if_pos hr, causeBit_getLsbD] at hbit
    exact absurd hbit (by decide)
  | rst he => exact absurd hr.symm hne
  | answer k d => exact absurd rfl hne
  | illegal => exact absurd rfl hne
  | store r v hi hacc => exact absurd (by simp) hne
  | command op _ hop hexec =>
    by_cases habort : op = .abort
    · subst habort
      cases hexec
      rw [okayWrite_eq, respond_haltCause, setErr_haltCause, halt_haltCause, popInbox_run, if_pos hr,
        causeBit_getLsbD] at hbit
      exact absurd hbit (by decide)
    by_cases hupdate : op = .update
    · subst hupdate
      have hadm : Admitted s := (execUpdate_moves hexec).left hne
      obtain ⟨u, hu, -, hstop⟩ := execUpdate_stop (s := taken s) hadm
      cases hexec.symm.trans hu
      exact ⟨hop, hadm, (hstop hhalt).symm.trans hbit⟩
    · exact absurd ((execOpcode_frame hexec).latch hupdate habort).left hne

/-- Settles O41: the stop bit of an UPDATE is the stop condition, which is CMDCHAR holding VALID and the token. -/
theorem stopCharacterHalts : Obligations.StopCharacterHalts := by
  unfold Obligations.StopCharacterHalts
  refine ⟨fun s hadm => ?_, fun s b hadm htoken => ?_, fun s t hr h hhalt hbit => ?_⟩
  · obtain ⟨t, ht, hhalt, hbit⟩ := execUpdate_stop hadm
    refine ⟨t, ht, fun h => ?_, fun h hrun => ?_⟩
    · have hstop : violStop s = true := by rw [violStop_eq_decide, h, decide_eq_true rfl]
      exact ⟨hhalt hstop, (hbit (hhalt hstop)).trans hstop⟩
    · rw [hbit hrun]
      obtain h | h := h
      · rw [violStop, charValid, h, Bool.false_and]
      · simp [violStop, charOf, h]
  · have hbyte : s.cfg.stopByte = b := by simp [Config.stopByte, htoken]
    obtain ⟨t, ht, hhalt, hbit⟩ := execUpdate_stop hadm
    rw [violStop_eq_decide, hbyte] at hhalt hbit
    refine ⟨t, ht, fun h => ?_, fun h hrun => ?_⟩
    · have hrun := hhalt (decide_eq_true h)
      exact ⟨hrun, (hbit hrun).trans (decide_eq_true h)⟩
    · exact (hbit hrun).trans (decide_eq_false h)
  · obtain ⟨hnext, hadm, hstop⟩ := step_stopChar hr h hhalt hbit
    exact ⟨hnext, hadm, of_decide_eq_true ((violStop_eq_decide s).symm.trans hstop)⟩

/-! ## Consecutive faults -/

/-- With no stop character and no liveness timeout, TRANSPORT is the one condition of a faulted UPDATE. -/
theorem faultCondition_transport_only {s : State} (t : State) (hlive : t.cfg.livenessTimeout = 0#32)
    (hchar : s.inputs.cmdchar.getLsbD 8 = false) (c : HaltCause) :
    faultCondition s t c = (decide (c = .transport) && violTransport t) := by
  have hstop : violStop s = false := by rw [violStop, charValid, hchar, Bool.false_and]
  have hno : violLive t = false := by simp [violLive, hlive]
  cases c <;> simp [faultCondition, hstop, hno]

/-- R139: the latch of a faulted UPDATE on which only TRANSPORT can halt. -/
theorem faultPath_transport {s : State} (hr : s.run = true) (hlive : s.cfg.livenessTimeout = 0#32)
    (hchar : s.inputs.cmdchar.getLsbD 8 = false) :
    (okayWrite (faultPath s)).run = !decide (s.cfg.faultHaltCount.toNat ≤ (satInc s.faultCnt).toNat) ∧
    (s.cfg.faultHaltCount.toNat ≤ (satInc s.faultCnt).toNat → (okayWrite (faultPath s)).haltCause = 0x100#10) := by
  have hcond := faultCondition_transport_only (s := s) (okayWrite (faultPath s)) (by simpa [faultPath_eq] using hlive) hchar
  have hviol : violTransport (okayWrite (faultPath s)) = decide (s.cfg.faultHaltCount.toNat ≤ (satInc s.faultCnt).toNat) := by
    simp [violTransport, faultPath_eq]
  obtain ⟨hrun, hcause, -⟩ := faultPath_haltsOn hr
  simp only [hcond, hviol, Bool.and_eq_true, decide_eq_true_eq, exists_eq_left] at hrun
  refine ⟨?_, fun hover => ?_⟩
  · rw [← Bool.not_eq_eq_eq_not, eq_comm, Bool.eq_iff_iff]
    simpa using hrun.symm
  · rw [mask_eq_iff]
    intro c
    rw [hcause (hrun.mpr hover), hcond, hviol, decide_eq_true hover, Bool.and_true]
    cases c <;> rfl

/-- Settles O42: the first fault counts 1 of 2, the second reaches the threshold. -/
theorem secondConsecutiveFaultHalts : Obligations.SecondConsecutiveFaultHalts := by
  unfold Obligations.SecondConsecutiveFaultHalts
  intro s hadm hfault hthreshold hlive hchar hzero
  have hcount : (satInc s.faultCnt) = 1#8 := by rw [hzero]; rfl
  obtain ⟨hrun, -⟩ := faultPath_transport hadm.left hlive hchar
  generalize ht : okayWrite (faultPath s) = t at hrun
  have hframe : SameOutside s t ∧ t.biasLocked = s.biasLocked ∧ t.tsValid = s.tsValid ∧ t.faultCnt = 1#8 ∧ t.est = s.est := by
    simp [← ht, SameOutside, faultPath_eq, hcount]
  obtain ⟨⟨hcfg, hinputs, -, -⟩, hlocked, hvalid, hcnt, hest⟩ := hframe
  have hrunning : t.run = true := by rw [hrun, hthreshold, hcount]; rfl
  have hadm' : Admitted t := ⟨hrunning, hlocked.trans hadm.right.left, hvalid.trans hadm.right.right⟩
  have hfault' : t.inputs.sfault = 1#1 := by rw [hinputs, hfault]
  obtain ⟨hrun', hcause'⟩ := faultPath_transport hrunning (by rw [hcfg, hlive]) (by rw [hinputs, hchar])
  have hcount' : satInc t.faultCnt = 2#8 := by rw [hcnt]; rfl
  rw [hcfg, hthreshold, hcount'] at hrun' hcause'
  refine ⟨t, _, ht ▸ exec_update_of_faulted hadm (.inl hfault), hrunning, hcnt,
    exec_update_of_faulted hadm' (.inl hfault'), hrun', hcause' le_rfl, ?_, ?_, ?_⟩
  · simpa [faultPath_eq] using hcount'
  · simpa [faultPath_eq] using hest
  · simp [faultPath_eq, faultCode, hfault', resultCode]

/-! ## What UPDATE does not depend on -/

/-- The state with other sample registers. -/
def resample (ax ay az gx gy gz : BitVec 16) (s : State) : State :=
  { s with
    inputs :=
      { s.inputs with
        sampleAx := ax, sampleAy := ay, sampleAz := az, sampleGx := gx, sampleGy := gy, sampleGz := gz } }

theorem faultPath_resample (ax ay az gx gy gz : BitVec 16) (s : State) :
    faultPath (resample ax ay az gx gy gz s) = resample ax ay az gx gy gz (faultPath s) := by
  rw [faultPath_eq, faultPath_eq]
  rfl

/-- Settles O40: the fault path commutes with a change of the sample registers. -/
theorem faultedUpdateIgnoresTheSample : Obligations.FaultedUpdateIgnoresTheSample := by
  unfold Obligations.FaultedUpdateIgnoresTheSample
  intro s t ax ay az gx gy gz hadm hfault h
  cases (exec_update_of_faulted hadm hfault).symm.trans h
  have hadm' : Admitted (resample ax ay az gx gy gz s) := hadm
  have hupdate := exec_update_of_faulted hadm' hfault
  rw [faultPath_resample] at hupdate
  exact hupdate

/-- The state with other values in BIAS_GZ and BIAS_AZ. -/
def rebias (gz az : F64) (s : State) : State := { s with bias := { s.bias with gz := gz, az := az } }

theorem goodPath_rebias (gz az : F64) (s : State) : goodPath (rebias gz az s) = rebias gz az (goodPath s) := by
  rw [goodPath_eq, goodPath_eq]
  rfl

theorem faultPath_rebias (gz az : F64) (s : State) : faultPath (rebias gz az s) = rebias gz az (faultPath s) := by
  rw [faultPath_eq, faultPath_eq]
  rfl

theorem halt_rebias (m : BitVec 10) (gz az : F64) (s : State) : halt m (rebias gz az s) = rebias gz az (halt m s) := by
  obtain ⟨hr, h⟩ | ⟨hr, h⟩ := halt_cases m s
  · rw [h, halt_of_run (s := rebias gz az s) m hr]
    rfl
  · rw [h, halt_of_halted (s := rebias gz az s) m hr]

/-- R37: no command reads BIAS_GZ or BIAS_AZ. -/
theorem execOpcode_rebias {op : Opcode} {s t : State} (gz az : F64) (h : execOpcode op s = .next t) :
    execOpcode op (rebias gz az s) = .next (rebias gz az t) := by
  cases op with
  | nop =>
    cases h
    rfl
  | lock =>
    cases h
    rfl
  | abort =>
    cases h
    simp only [execOpcode, execAbort, halt_rebias]
    rfl
  | sync =>
    obtain ⟨hout, rfl⟩ | ⟨hin, rfl⟩ := execSync_cases h
    · exact execSync_of_outOfRange (s := rebias gz az s) hout
    · exact execSync_of_inRange (s := rebias gz az s) hin
  | update =>
    obtain ⟨hr, rfl⟩ | ⟨hr, hb, rfl⟩ | ⟨hr, hb, ht, rfl⟩ | ⟨hr, hb, ht, hf, rfl⟩ | ⟨hr, hb, ht, hf, rfl⟩ := execUpdate_cases h
    · exact execUpdate_of_halted (s := rebias gz az s) hr
    · exact execUpdate_of_unlocked (s := rebias gz az s) hr hb
    · exact execUpdate_of_noTimestamp (s := rebias gz az s) hr hb ht
    · have hadm : Admitted (rebias gz az s) := ⟨hr, hb, ht⟩
      have hupdate := exec_update_of_faulted hadm ((sampleFaulted_iff s).mp hf)
      rw [faultPath_rebias] at hupdate
      exact hupdate
    · have hadm : Admitted (rebias gz az s) := ⟨hr, hb, ht⟩
      have hupdate := exec_update_of_good hadm ((sampleFaulted_eq_false_iff s).mp hf)
      rw [goodPath_rebias] at hupdate
      exact hupdate

theorem performCommand_rebias {v : Word} {s t : State} (gz az : F64) (h : performCommand v s = .next t) :
    performCommand v (rebias gz az s) = .next (rebias gz az t) := by
  obtain ⟨op, hv, hop⟩ | ⟨e, hv, rfl⟩ := performCommand_cases h
  · simpa only [performCommand, hv] using execOpcode_rebias gz az hop
  · exact performCommand_of_error hv _

theorem readReg_rebias {r : Reg} (hgz : r ≠ .biasGz) (haz : r ≠ .biasAz) (gz az : F64) (s : State) :
    readReg (rebias gz az s) r = readReg s r := by
  cases r <;> (try contradiction) <;> rfl

theorem storeReg_rebias {r : Reg} (hgz : r ≠ .biasGz) (haz : r ≠ .biasAz) (v : Word) (gz az : F64) (s : State) :
    storeReg r v (rebias gz az s) = rebias gz az (storeReg r v s) := by
  cases r <;> (try contradiction) <;> rfl

/-- R37: the port gives or takes BIAS_GZ and BIAS_AZ only in a transaction on one of them. -/
theorem execWr_rebias {off : Offset} {width : Nat} {v : Word} {s t : State} (hgz : off ≠ regOffset .biasGz)
    (haz : off ≠ regOffset .biasAz) (gz az : F64) (h : execWr off width v s = .next t) :
    execWr off width v (rebias gz az s) = .next (rebias gz az t) := by
  obtain ⟨rfl, hnone | ⟨r, hr, href⟩⟩ | ⟨hcmd, hperform⟩ | ⟨r, hr, hacc, rfl⟩ := execWr_cases h
  · exact execWr_of_noTarget hnone v _
  · have hagain : WriteRefused r (rebias gz az s) := href
    rw [execWr_of_target hr, writeReg_of_refused hagain]
    rfl
  · rw [execWr_of_target hcmd]
    exact performCommand_rebias gz az hperform
  · obtain ⟨rfl, -⟩ := (target_eq_some_iff off width r).mp hr
    have hagain : Writable r (rebias gz az s) := hacc
    rw [execWr_of_target hr, writeReg_of_stored hagain,
      storeReg_rebias (fun h => hgz (congrArg _ h)) (fun h => haz (congrArg _ h))]
    rfl

theorem execRd_rebias {off : Offset} {width : Nat} {s t : State} (hgz : off ≠ regOffset .biasGz)
    (haz : off ≠ regOffset .biasAz) (gz az : F64) (h : execRd off width s = .next t) :
    execRd off width (rebias gz az s) = .next (rebias gz az t) := by
  obtain ⟨hnone, rfl⟩ | ⟨r, hr, rfl⟩ := execRd_cases h
  · exact execRd_of_noTarget hnone _
  · obtain ⟨rfl, -⟩ := (target_eq_some_iff off width r).mp hr
    rw [execRd_of_target hr, readReg_rebias (fun h => hgz (congrArg _ h)) (fun h => haz (congrArg _ h))]
    rfl

/-- Settles O39: every instruction commutes with a change of the two registers. -/
theorem unusedBiasesAffectNothing : Obligations.UnusedBiasesAffectNothing := by
  unfold Obligations.UnusedBiasesAffectNothing
  intro i s t gz az hi h
  change exec i (rebias gz az s) = .next (rebias gz az t)
  have hcommand : ∀ op : Opcode, exec op.instr s = .next t → exec op.instr (rebias gz az s) = .next (rebias gz az t) := by
    intro op hop
    rw [← execOpcode_eq_exec] at hop ⊢
    exact execOpcode_rebias gz az hop
  cases i with
  | rd off width =>
    exact execRd_rebias (fun hoff => (hi .biasGz width (.inl rfl)).left (by rw [hoff]))
      (fun hoff => (hi .biasAz width (.inr rfl)).left (by rw [hoff])) gz az h
  | wr off width v =>
    exact execWr_rebias (fun hoff => (hi .biasGz width (.inl rfl)).right v (by rw [hoff]))
      (fun hoff => (hi .biasAz width (.inr rfl)).right v (by rw [hoff])) gz az h
  | nop => exact hcommand .nop h
  | sync => exact hcommand .sync h
  | update => exact hcommand .update h
  | lock => exact hcommand .lock h
  | abort => exact hcommand .abort h

end Sys2Proof.Machine

/-! PROOFS of the statements on the invariant of the block: it holds at reset, every step keeps it, and so a RUNNING
default block is within its limits after every run (R38, R41, R42, R131 to R141, R170, R201). -/

namespace Sys2Proof.Machine

/-! ## Raw values and the delta -/

/-- R85: the word of two bytes, in numbers. -/
theorem toNat_append_bytes (h l : BitVec 8) : (h ++ l).toNat = h.toNat * 256 + l.toNat := by
  rw [BitVec.toNat_append, ← Nat.shiftLeft_add_eq_or_of_lt l.isLt, Nat.shiftLeft_eq]

/-- Settles O49: the raw value is the signed reading of the word, and the word is its two bytes. -/
theorem rawIsTwosComplement : Obligations.RawIsTwosComplement := by
  unfold Obligations.RawIsTwosComplement
  intro h l
  have hh := h.isLt
  have hl := l.isLt
  have hword := toNat_append_bytes h l
  refine ⟨raw_eq_toInt _, ?_⟩
  rw [raw_eq_toInt, BitVec.toInt_eq_toNat_cond, hword]
  split <;> split <;> omega

/-- Settles O53: by the sign of the difference. -/
theorem deltaIsPositiveAndBounded : Obligations.DeltaIsPositiveAndBounded := by
  unfold Obligations.DeltaIsPositiveAndBounded
  intro c ts prev hts hprev
  unfold dtDelta
  split
  · exact ⟨by omega, by omega, .inr rfl, fun h => by omega⟩
  · exact ⟨by omega, by omega, .inl rfl, fun h => by omega⟩

/-! ## The registers the invariant speaks of -/

/-- The registers the invariant speaks of, but for ERR, are as before. -/
structure SameGuarded (s t : State) : Prop where
  cfg : t.cfg = s.cfg
  run : t.run = s.run
  haltCause : t.haltCause = s.haltCause
  biasLocked : t.biasLocked = s.biasLocked
  tsValid : t.tsValid = s.tsValid
  prevTs : t.prevTs = s.prevTs
  est : t.est = s.est
  faultCnt : t.faultCnt = s.faultCnt
  livePrev : t.livePrev = s.livePrev
  stallCnt : t.stallCnt = s.stallCnt

theorem errAssigned_of_resultCode {s : State} (c : ResultCode) (h : s.err = resultCode c) : ErrAssigned s := by
  rw [ErrAssigned, h]
  cases c <;> decide

/-- R131, R132, R135, R139: the four conditions read the build, the estimate and the two counters only. -/
theorem RunningIsSafe.congr {s t : State} (hs : RunningIsSafe s) (hrun : t.run = true → s.run = true) (hcfg : t.cfg = s.cfg)
    (hest : t.est = s.est) (hfault : t.faultCnt = s.faultCnt) (hstall : t.stallCnt = s.stallCnt) : RunningIsSafe t := by
  intro hr
  have h := hs (hrun hr)
  simpa only [violRoll, violPitch, violTransport, violLive, hcfg, hest, hfault, hstall] using h

theorem BlockInv.congr {s t : State} (hs : BlockInv s) (hsame : SameGuarded s t) (herr : ErrAssigned t) : BlockInv t where
  legal := hsame.cfg ▸ hs.legal
  running := hs.running.congr (fun hr => hsame.run ▸ hr) hsame.cfg hsame.est hsame.faultCnt hsame.stallCnt
  cause := by
    rw [CauseMatchesRun, hsame.haltCause, hsame.run]
    exact hs.cause
  prevTs := by
    rw [TimestampInRange, hsame.prevTs, hsame.cfg, hsame.tsValid]
    exact hs.prevTs
  delta := by
    rw [DeltaInRange, hsame.est, hsame.cfg]
    exact hs.delta
  boot := by
    rw [NothingBeforeBoot, hsame.biasLocked, hsame.tsValid, hsame.est, hsame.faultCnt, hsame.livePrev, hsame.stallCnt]
    exact hs.boot
  err := herr

/-- A command that only sets ERR keeps the invariant. -/
theorem BlockInv.setErr {s : State} (hs : BlockInv s) (c : ResultCode) : BlockInv (okayWrite (setErr c s)) :=
  hs.congr ⟨rfl, rfl, rfl, rfl, rfl, rfl, rfl, rfl, rfl, rfl⟩ (errAssigned_of_resultCode c rfl)

/-- R7: FAULT_HALT_COUNT is at least 1. -/
theorem faultHaltCount_ne_zero {c : Config} (h : c.Legal) : c.faultHaltCount.toNat ≠ 0 :=
  fun hzero => h.left (BitVec.eq_of_toNat_eq (by simpa using hzero))

/-! ## Reset -/

/-- R131: an estimate of zero is within any limit that is a number not below zero. -/
theorem exceeds_zero {limit : F64} (h : fle 0#64 limit = true) : exceeds 0#64 limit = false := by
  have hfabs : fabs 0#64 = 0#64 := by decide
  rw [exceeds, hfabs, h]
  rfl

/-- R201: `rst` establishes the invariant of a legal build. -/
theorem blockInv_resetBlock {s : State} (hlegal : s.cfg.Legal) : BlockInv (resetBlock s) where
  legal := hlegal
  running := by
    have hcount := faultHaltCount_ne_zero hlegal
    obtain ⟨-, -, -, hroll, hpitch, -⟩ := hlegal
    refine fun _ => ⟨exceeds_zero hroll, exceeds_zero hpitch, ?_, ?_⟩
    · simpa [violTransport] using hcount
    · rw [violLive_eq_decide rfl, decide_eq_false_iff_not, resetBlock_stallCnt]
      rintro ⟨hpos, hover⟩
      exact absurd hpos (Nat.not_lt.mpr hover)
  cause := by simp [CauseMatchesRun]
  prevTs := by
    obtain ⟨-, hpos, -⟩ := hlegal
    simpa [TimestampInRange] using hpos
  delta := by simp [DeltaInRange]
  boot := by simp [NothingBeforeBoot]
  err := by simp [ErrAssigned]

theorem legal_defaults : Config.defaults.Legal := by
  refine ⟨?_, ?_, ?_, ?_, ?_, ?_⟩ <;> decide +kernel

/-- Settles O43: the state after reset is what `rst` leaves of it, and the defaults are a legal build. -/
theorem invariantAtReset : Obligations.InvariantAtReset := by
  unfold Obligations.InvariantAtReset
  exact ⟨blockInv_resetBlock (s := State.reset) legal_defaults, rfl⟩

/-! ## The latch -/

/-- R141: clearing RUN with a cause keeps the invariant. -/
theorem BlockInv.halt {s : State} (hs : BlockInv s) {m : BitVec 10} (hm : m ≠ 0#10) : BlockInv (halt m s) := by
  obtain ⟨hr, h⟩ | ⟨-, h⟩ := halt_cases m s
  · rw [h]
    obtain ⟨hlegal, -, -, hprev, hdelta, hboot, herr⟩ := hs
    exact ⟨hlegal, fun hrun => absurd hrun Bool.false_ne_true,
      ⟨fun hzero => absurd hzero hm, fun hrun => absurd hrun Bool.false_ne_true⟩, hprev, hdelta, hboot, herr⟩
  · rw [h]
    exact hs

/-- R136, R139: where an UPDATE halts exactly on its conditions, HALT_CAUSE keeps matching RUN. -/
theorem HaltsOn.causeMatchesRun {s t : State} {cond : HaltCause → Bool} (h : HaltsOn s t cond) (hs : s.haltCause = 0#10) :
    CauseMatchesRun t := by
  refine ⟨fun hzero => ?_, fun hrun => (h.kept hrun).trans hs⟩
  by_contra hrun
  rw [Bool.not_eq_true] at hrun
  obtain ⟨c, hc⟩ := h.run_iff.mp hrun
  have hbit := h.cause hrun c
  rw [hzero, hc] at hbit
  simp at hbit

/-- R136, R139: where an UPDATE keeps RUNNING, none of its conditions holds. -/
theorem HaltsOn.cond_false {s t : State} {cond : HaltCause → Bool} (h : HaltsOn s t cond) (hrun : t.run = true)
    (c : HaltCause) : cond c = false := by
  rw [← Bool.not_eq_true]
  intro hc
  exact absurd (h.run_iff.mpr ⟨c, hc⟩) (by simp [hrun])

/-! ## The two paths of UPDATE -/

/-- R42: the delta of a good UPDATE fits DT_NS. -/
theorem dtNs_le_nsPerS {s : State} (hs : BlockInv s) (hgood : SampleGood s) :
    (BitVec.ofInt 30 (updateDelta s)).toNat ≤ s.cfg.nsPerS := by
  obtain ⟨-, -, hfits, -⟩ := hs.legal
  obtain ⟨hlo, hhi, -⟩ := deltaIsPositiveAndBounded s.cfg (tsOf s) s.prevTs.toNat hgood.right hs.prevTs.left
  rw [updateDelta, BitVec.toNat_ofInt, Int.emod_eq_of_lt (by omega) (by omega)]
  omega

theorem blockInv_goodPath {s : State} (hs : BlockInv s) (hadm : Admitted s) (hgood : SampleGood s) :
    BlockInv (okayWrite (goodPath s)) := by
  obtain ⟨hr, hb, ht⟩ := hadm
  have hhalts := goodPath_haltsOn hr
  constructor
  case legal => simpa using hs.legal
  case running =>
    intro hrun
    have hnone := hhalts.cond_false hrun
    refine ⟨hnone .roll, hnone .pitch, ?_, hnone .liveness⟩
    rw [violTransport_eq_decide (c := s.cfg) (by simp)]
    simpa [goodPath_eq] using faultHaltCount_ne_zero hs.legal
  case cause => exact hhalts.causeMatchesRun (hs.cause.mpr hr)
  case prevTs => exact ⟨by simpa [goodPath_eq] using hgood.right, fun hv => by simp [goodPath_eq, ht] at hv⟩
  case delta =>
    rw [DeltaInRange, goodPath_est]
    simpa using dtNs_le_nsPerS hs hgood
  case boot =>
    intro hv
    simp [goodPath_eq, hb, ht] at hv
  case err => exact errAssigned_of_resultCode .ok rfl

theorem blockInv_faultPath {s : State} (hs : BlockInv s) (hadm : Admitted s) : BlockInv (okayWrite (faultPath s)) := by
  obtain ⟨hr, hb, ht⟩ := hadm
  have hhalts := faultPath_haltsOn hr
  constructor
  case legal => simpa using hs.legal
  case running =>
    intro hrun
    have hnone := hhalts.cond_false hrun
    obtain ⟨hroll, hpitch, -, -⟩ := hs.running hr
    refine ⟨?_, ?_, hnone .transport, hnone .liveness⟩
    · simpa [violRoll, faultPath_eq] using hroll
    · simpa [violPitch, faultPath_eq] using hpitch
  case cause => exact hhalts.causeMatchesRun (hs.cause.mpr hr)
  case prevTs => simpa [TimestampInRange, faultPath_eq] using hs.prevTs
  case delta => simpa [DeltaInRange, faultPath_eq] using hs.delta
  case boot =>
    intro hv
    simp [faultPath_eq, hb, ht] at hv
  case err => exact errAssigned_of_resultCode (faultCode s) rfl

/-! ## Every step -/

/-- R157: an in-range timestamp may be latched at any moment. -/
theorem BlockInv.latchTs {s : State} (hs : BlockInv s) (hin : tsOf s < s.cfg.nsPerS) : BlockInv (latchTs s) where
  legal := hs.legal
  running := hs.running
  cause := hs.cause
  prevTs := ⟨hin, fun hv => absurd hv (by simp)⟩
  delta := hs.delta
  boot := fun hv => hs.boot (hv.imp id fun h => absurd h (by simp))
  err := hs.err

/-- R162: the biases may be locked at any moment. -/
theorem BlockInv.lockBias {s : State} (hs : BlockInv s) : BlockInv (lockBias s) where
  legal := hs.legal
  running := hs.running
  cause := hs.cause
  prevTs := hs.prevTs
  delta := hs.delta
  boot := fun hv => hs.boot (hv.imp (fun h => absurd h (by simp)) id)
  err := hs.err

theorem blockInv_execOpcode {op : Opcode} {s t : State} (hs : BlockInv s) (h : execOpcode op s = .next t) : BlockInv t := by
  cases op with
  | nop =>
    cases h
    exact hs.setErr .ok
  | sync =>
    obtain ⟨-, rfl⟩ | ⟨hin, rfl⟩ := execSync_cases h
    · exact hs.setErr _
    · exact (hs.latchTs hin).setErr .ok
  | lock =>
    cases h
    exact hs.lockBias.setErr .ok
  | abort =>
    cases h
    exact (hs.halt (causeBit_ne_zero _)).setErr .ok
  | update =>
    obtain ⟨-, rfl⟩ | ⟨-, -, rfl⟩ | ⟨-, -, -, rfl⟩ | ⟨hr, hb, ht, -, rfl⟩ | ⟨hr, hb, ht, hgood, rfl⟩ := execUpdate_cases h
    · exact hs.setErr _
    · exact hs.setErr _
    · exact hs.setErr _
    · exact blockInv_faultPath hs ⟨hr, hb, ht⟩
    · exact blockInv_goodPath hs ⟨hr, hb, ht⟩ ((sampleFaulted_eq_false_iff s).mp hgood)

/-- What the host does next is no part of the invariant. -/
theorem BlockInv.popInbox {s : State} (hs : BlockInv s) (rest : List Event) : BlockInv (popInbox rest s) :=
  hs.congr ⟨rfl, rfl, rfl, rfl, rfl, rfl, rfl, rfl, rfl, rfl⟩ hs.err

/-- Settles O44: by what the step does. -/
theorem invariantKeptByEveryStep : Obligations.InvariantKeptByEveryStep := by
  unfold Obligations.InvariantKeptByEveryStep
  intro s t hs h
  have htaken : BlockInv (taken s) := hs.popInbox _
  cases stepEffect_of_step h with
  | idle hnil => exact hs
  | abortAsync he => exact htaken.halt (causeBit_ne_zero _)
  | rst he => exact blockInv_resetBlock htaken.legal
  | answer k d => exact htaken.congr ⟨rfl, rfl, rfl, rfl, rfl, rfl, rfl, rfl, rfl, rfl⟩ htaken.err
  | illegal => exact htaken.setErr .illegal
  | store r v hi hacc => exact htaken.congr (by constructor <;> simp) (by simpa [ErrAssigned] using hs.err)
  | command op _ hop hexec => exact blockInv_execOpcode htaken hexec

/-! ## Every run of the default block -/

/-- R7: no step changes the build. -/
theorem step_cfg {s t : State} (h : step s = .next t) : t.cfg = s.cfg := by
  cases stepEffect_of_step h with
  | idle hnil => rfl
  | abortAsync he => simp
  | rst he => rfl
  | answer k d => rfl
  | illegal => rfl
  | store r v hi hacc => simp
  | command op _ hop hexec =>
    obtain ⟨hcfg, -, -, -⟩ := (execOpcode_frame hexec).outside
    exact hcfg

/-- The invariant, of the default build. -/
structure DefaultBlockInv (s : State) : Prop where
  inv : BlockInv s
  cfg : s.cfg = Config.defaults

theorem step_keeps_defaultBlockInv (s t : State) (hs : DefaultBlockInv s) (h : step s = .next t) : DefaultBlockInv t :=
  ⟨invariantKeptByEveryStep s t hs.inv h, (step_cfg h).trans hs.cfg⟩

/-- Settles O45: the invariant holds at reset and is kept by every run; it has the limits of a RUNNING block. -/
theorem runningMeansWithinLimits : Obligations.RunningMeansWithinLimits := by
  unfold Obligations.RunningMeansWithinLimits
  intro program n t hrun hr
  have hstart : DefaultBlockInv (popInbox program State.reset) := ⟨invariantAtReset.left.popInbox program, rfl⟩
  obtain ⟨hinv, hcfg⟩ := core_run_keeps step_keeps_defaultBlockInv hstart hrun
  obtain ⟨hroll, hpitch, -, -⟩ := hinv.running hr
  rw [violRoll, exceeds, hcfg, Bool.not_eq_false'] at hroll
  rw [violPitch, exceeds, hcfg, Bool.not_eq_false'] at hpitch
  exact ⟨hroll, hpitch⟩

end Sys2Proof.Machine

/-! PROOFS of the statements on rounding and order (R11, D2): the pattern `roundMag` gives is the nearest one, ties go to
the even one, the operators round the exact result, and the ordered comparison is the order of the values. -/

namespace Sys2Proof.Machine

/-! ## Distances -/

/-- How far `v / den` is from `num / den`, times `den`: the distance that R11's rounding makes least. -/
def roundDist (v den num : Nat) : Nat := ((v * den : Nat) - (num : Int)).natAbs

/-- The distance from a value not above the ratio. -/
theorem roundDist_of_le {v den num : Nat} (h : v * den ≤ num) : roundDist v den num = num - v * den := by
  unfold roundDist
  omega

/-- The distance from a value not below the ratio. -/
theorem roundDist_of_ge {v den num : Nat} (h : num ≤ v * den) : roundDist v den num = v * den - num := by
  unfold roundDist
  omega

theorem roundDist_mul (q e den num : Nat) : roundDist (q * e) den num = roundDist q (den * e) num := by
  rw [roundDist, roundDist, mul_right_comm, mul_assoc]

/-! ## Rounding a quotient -/

theorem div_le_rneDiv (n d : Nat) : n / d ≤ rneDiv n d := by
  unfold rneDiv
  split_ifs <;> omega

theorem rneDiv_le_succ (n d : Nat) : rneDiv n d ≤ n / d + 1 := by
  unfold rneDiv
  split_ifs <;> omega

/-- The multiples of `d` on either side of a multiple other than the two next to `n` are further away. -/
theorem mul_outside {n d N : Nat} : N * d + d ≤ (n / d) * d ∨ N = n / d ∨ N = n / d + 1 ∨ (n / d + 1) * d + d ≤ N * d := by
  have hstep : ∀ x y : Nat, x + 1 ≤ y → x * d + d ≤ y * d := fun x y h => by
    rw [← Nat.succ_mul]
    exact Nat.mul_le_mul_right d h
  rcases Nat.lt_trichotomy N (n / d) with h | h | h
  · exact .inl (hstep _ _ h)
  · exact .inr (.inl h)
  · rcases Nat.lt_trichotomy N (n / d + 1) with h' | h' | h'
    · omega
    · exact .inr (.inr (.inl h'))
    · exact .inr (.inr (.inr (hstep _ _ h')))

/-- No multiple is nearer than the one `rneDiv` gives, and one as near leaves it even. -/
theorem rneDiv_nearest (n : Nat) {d : Nat} (hd : 0 < d) (N : Nat) :
    roundDist (rneDiv n d) d n ≤ roundDist N d n ∧ (roundDist (rneDiv n d) d n = roundDist N d n → N ≠ rneDiv n d → rneDiv n d % 2 = 0) := by
  have hmod := Nat.mod_lt n hd
  have hn : (n / d) * d + n % d = n := Nat.div_add_mod' n d
  have hsucc : (n / d + 1) * d = (n / d) * d + d := Nat.succ_mul _ _
  have hout := mul_outside (n := n) (d := d) (N := N)
  unfold rneDiv roundDist
  split_ifs with hlow htie
  · refine ⟨?_, fun h hne => ?_⟩ <;> rcases hout with h' | rfl | rfl | h' <;> omega
  · exact ⟨by rcases hout with h' | rfl | rfl | h' <;> omega, fun _ _ => htie.right⟩
  · refine ⟨by rcases hout with h' | rfl | rfl | h' <;> omega, fun h hne => ?_⟩
    rcases hout with h' | rfl | rfl | h' <;> omega

/-! ## Magnitude patterns and their values -/

/-- A magnitude pattern is an exponent step count above a significand of at most 53 bits. -/
theorem exists_significand (m : Nat) : ∃ q k, m = k * 2 ^ 52 + q ∧ q < 2 ^ 53 ∧ (k = 0 ∨ 2 ^ 52 ≤ q) := by
  refine ⟨m - (m / 2 ^ 52 - 1) * 2 ^ 52, m / 2 ^ 52 - 1, ?_, ?_, ?_⟩ <;> omega

/-- The value of a pattern from its significand; a carry out of the significand is the next exponent step. -/
theorem magUnits_significand {q k : Nat} (hq : q ≤ 2 ^ 53) (hnorm : k = 0 ∨ 2 ^ 52 ≤ q) :
    magUnits (k * 2 ^ 52 + q) = q * 2 ^ k := by
  obtain hlt | rfl := Nat.lt_or_eq_of_le hq
  · exact magUnits_normalized hlt hnorm
  · have hcarry : k * 2 ^ 52 + 2 ^ 53 = (k + 1) * 2 ^ 52 + 2 ^ 52 := by ring
    rw [hcarry, magUnits_normalized (by decide) (.inr le_rfl)]
    ring

theorem magUnits_succ (m : Nat) : magUnits m < magUnits (m + 1) := by
  obtain ⟨q, k, rfl, hq, hnorm⟩ := exists_significand m
  rw [add_assoc, magUnits_significand hq.le hnorm, magUnits_significand hq (hnorm.imp_right fun h => by omega)]
  exact Nat.mul_lt_mul_of_pos_right (Nat.lt_succ_self q) (Nat.two_pow_pos k)

/-- A greater pattern is a greater value. -/
theorem magUnits_strictMono : StrictMono magUnits := strictMono_nat_of_lt_succ magUnits_succ

@[simp] theorem magUnits_zero : magUnits 0 = 0 := rfl

theorem magUnits_eq_zero_iff (m : Nat) : magUnits m = 0 ↔ m = 0 :=
  ⟨fun h => magUnits_strictMono.injective (h.trans magUnits_zero.symm), fun h => h ▸ magUnits_zero⟩

/-! ## Rounding a ratio -/

/-- The exponent steps of a ratio: its excess over 53 significant bits. -/
def roundExp (num den : Nat) : Nat := Nat.log2 (num / den) - 52

/-- The significand of a ratio, rounded at those steps. -/
def roundSig (num den : Nat) : Nat := rneDiv num (den * 2 ^ roundExp num den)

/-- The pattern of a rounded ratio, were there no infinity. -/
def roundWide (num den : Nat) : Nat := roundExp num den * 2 ^ 52 + roundSig num den

theorem roundMag_eq (num den : Nat) : roundMag num den = min infMag (roundWide num den) := rfl

/-- Where a ratio has an excess, it is at least 53 bits at that exponent. -/
theorem two_pow_le_of_roundExp_pos {num den : Nat} (h : 0 < roundExp num den) :
    2 ^ 52 * 2 ^ roundExp num den * den ≤ num := by
  unfold roundExp at h ⊢
  have hne : num / den ≠ 0 := by
    intro hzero
    rw [hzero] at h
    simp at h
  have hpow : 2 ^ 52 * 2 ^ (Nat.log2 (num / den) - 52) = 2 ^ Nat.log2 (num / den) := by
    rw [← pow_add]
    congr 1
    omega
  rw [hpow]
  exact (Nat.mul_le_mul_right den (Nat.log2_self_le hne)).trans (Nat.div_mul_le_self num den)

/-- The rounded significand has at most 53 bits or is a carry out of them. -/
theorem roundSig_le (num den : Nat) : roundSig num den ≤ 2 ^ 53 := by
  have hquot : num / (den * 2 ^ roundExp num den) < 2 ^ 53 := by
    rw [← Nat.div_div_eq_div_mul, Nat.div_lt_iff_lt_mul (Nat.two_pow_pos _), ← pow_add]
    refine Nat.lt_log2_self.trans_le (Nat.pow_le_pow_right (by decide) ?_)
    unfold roundExp
    omega
  exact (rneDiv_le_succ _ _).trans hquot

theorem roundSig_norm (num : Nat) {den : Nat} (hden : 0 < den) : roundExp num den = 0 ∨ 2 ^ 52 ≤ roundSig num den := by
  obtain h | h := Nat.eq_zero_or_pos (roundExp num den)
  · exact .inl h
  · refine .inr (le_trans ?_ (div_le_rneDiv _ _))
    rw [Nat.le_div_iff_mul_le (Nat.mul_pos hden (Nat.two_pow_pos _))]
    exact le_of_eq_of_le (by ring) (two_pow_le_of_roundExp_pos h)

theorem magUnits_roundWide (num : Nat) {den : Nat} (hden : 0 < den) :
    magUnits (roundWide num den) = roundSig num den * 2 ^ roundExp num den :=
  magUnits_significand (roundSig_le num den) (roundSig_norm num hden)

theorem roundDist_roundWide (num : Nat) {den : Nat} (hden : 0 < den) :
    roundDist (magUnits (roundWide num den)) den num = roundDist (roundSig num den) (den * 2 ^ roundExp num den) num := by
  rw [magUnits_roundWide num hden, roundDist_mul]

/-- R11: no pattern is nearer the ratio than the rounded one, and one as near leaves the rounded one even. A pattern at
or above the ratio's exponent is a multiple of the last place; one below it is further away than the least such. -/
theorem roundWide_nearest (num : Nat) {den : Nat} (hden : 0 < den) (m : Nat) :
    roundDist (magUnits (roundWide num den)) den num ≤ roundDist (magUnits m) den num ∧
      (roundDist (magUnits (roundWide num den)) den num = roundDist (magUnits m) den num → m ≠ roundWide num den →
        roundWide num den % 2 = 0) := by
  have hstep : 0 < den * 2 ^ roundExp num den := Nat.mul_pos hden (Nat.two_pow_pos _)
  have hparity : roundWide num den % 2 = roundSig num den % 2 := by
    unfold roundWide
    omega
  rw [roundDist_roundWide num hden, hparity]
  obtain ⟨q, k, hm, hq, hnorm⟩ := exists_significand m
  have hvalue : magUnits m = q * 2 ^ k := hm ▸ magUnits_significand hq.le hnorm
  by_cases hk : roundExp num den ≤ k
  · have hmultiple : magUnits m = q * 2 ^ (k - roundExp num den) * 2 ^ roundExp num den := by
      rw [hvalue, mul_assoc, ← pow_add, Nat.sub_add_cancel hk]
    rw [hmultiple, roundDist_mul]
    obtain ⟨hle, htie⟩ := rneDiv_nearest num hstep (q * 2 ^ (k - roundExp num den))
    refine ⟨hle, fun heq hne => htie heq fun hsame => hne ?_⟩
    apply magUnits_strictMono.injective
    rw [hmultiple, hsame, magUnits_roundWide num hden]
    rfl
  · have hbelow : magUnits m < 2 ^ 52 * 2 ^ roundExp num den := by
      rw [hvalue]
      calc q * 2 ^ k < 2 ^ 53 * 2 ^ k := Nat.mul_lt_mul_of_pos_right hq (Nat.two_pow_pos k)
        _ = 2 ^ 52 * 2 ^ (k + 1) := by ring
        _ ≤ 2 ^ 52 * 2 ^ roundExp num den := Nat.mul_le_mul_left _ (Nat.pow_le_pow_right (by decide) (by omega))
    have hratio : 2 ^ 52 * 2 ^ roundExp num den * den ≤ num := two_pow_le_of_roundExp_pos (by omega)
    have hfar : magUnits m * den < 2 ^ 52 * 2 ^ roundExp num den * den := Nat.mul_lt_mul_of_pos_right hbelow hden
    have hlt : roundDist (2 ^ 52) (den * 2 ^ roundExp num den) num < roundDist (magUnits m) den num := by
      rw [← roundDist_mul, roundDist_of_le hratio, roundDist_of_le (by omega)]
      omega
    have hle := (rneDiv_nearest num hstep (2 ^ 52)).left
    exact ⟨(hle.trans_lt hlt).le, fun heq _ => absurd heq (hle.trans_lt hlt).ne⟩

/-- A ratio not above a pattern's value is not rounded above the pattern. -/
theorem roundWide_le_of_le {num den m : Nat} (hden : 0 < den) (h : num ≤ magUnits m * den) : roundWide num den ≤ m := by
  by_contra hlt
  have hunits := Nat.mul_lt_mul_of_pos_right (magUnits_strictMono (not_le.mp hlt)) hden
  have hnear := (roundWide_nearest num hden m).left
  rw [roundDist_of_ge h, roundDist_of_ge (by omega)] at hnear
  omega

/-- A ratio not below a pattern's value is not rounded below the pattern. -/
theorem le_roundWide_of_le {num den m : Nat} (hden : 0 < den) (h : magUnits m * den ≤ num) : m ≤ roundWide num den := by
  by_contra hlt
  have hunits := Nat.mul_lt_mul_of_pos_right (magUnits_strictMono (not_le.mp hlt)) hden
  have hnear := (roundWide_nearest num hden m).left
  rw [roundDist_of_le h, roundDist_of_le (by omega)] at hnear
  omega

/-- Rounding keeps the order of ratios with one denominator. -/
theorem roundWide_mono {num num' den : Nat} (hden : 0 < den) (h : num ≤ num') : roundWide num den ≤ roundWide num' den := by
  by_contra hlt
  have hunits := Nat.mul_lt_mul_of_pos_right (magUnits_strictMono (not_le.mp hlt)) hden
  have hnear := (roundWide_nearest num hden (roundWide num' den)).left
  have hnear' := (roundWide_nearest num' hden (roundWide num den)).left
  have heq : num = num' := by
    unfold roundDist at hnear hnear'
    omega
  exact hlt (heq ▸ le_rfl)

theorem roundMag_le_of_le {num den m : Nat} (hden : 0 < den) (h : num ≤ magUnits m * den) : roundMag num den ≤ m :=
  (min_le_right _ _).trans (roundWide_le_of_le hden h)

theorem le_roundMag_of_le {num den m : Nat} (hden : 0 < den) (hm : m ≤ infMag) (h : magUnits m * den ≤ num) :
    m ≤ roundMag num den :=
  le_min hm (le_roundWide_of_le hden h)

theorem roundMag_mono {num num' den : Nat} (hden : 0 < den) (h : num ≤ num') : roundMag num den ≤ roundMag num' den :=
  min_le_min_left _ (roundWide_mono hden h)

/-- A pattern's own value is rounded to it. -/
theorem roundMag_magUnits {m den : Nat} (hden : 0 < den) (hm : m ≤ infMag) : roundMag (magUnits m * den) den = m :=
  le_antisymm (roundMag_le_of_le hden le_rfl) (le_roundMag_of_le hden hm le_rfl)

@[simp] theorem roundMag_zero {den : Nat} (hden : 0 < den) : roundMag 0 den = 0 :=
  Nat.le_zero.mp (roundMag_le_of_le hden (by simp))

theorem roundMag_eq_roundWide {num den : Nat} (h : roundMag num den < infMag) : roundMag num den = roundWide num den := by
  rw [roundMag_eq] at h ⊢
  omega

/-! ## Overflow -/

/-- The largest finite magnitude pattern. -/
def maxMag : Nat := infMag - 1

theorem magUnits_maxMag : magUnits maxMag = (2 ^ 53 - 1) * 2 ^ 2045 := by decide +kernel

theorem magUnits_infMag : magUnits infMag = 2 ^ 53 * 2 ^ 2045 := by decide +kernel

/-- The last place of the largest finite value, and half of it above that value. -/
theorem overflow_midpoint {den : Nat} (hden : 0 < den) :
    2 * ((2 ^ 54 - 1) * 2 ^ 2044 * den) = magUnits maxMag * den + magUnits infMag * den ∧
      magUnits maxMag * den < magUnits infMag * den := by
  refine ⟨?_, Nat.mul_lt_mul_of_pos_right (magUnits_strictMono (by decide)) hden⟩
  have hpow : (2 : Nat) ^ 2045 = 2 * 2 ^ 2044 := by rw [← pow_succ']
  rw [magUnits_maxMag, magUnits_infMag, hpow]
  generalize (2 : Nat) ^ 2044 = p
  ring

/-- R11: rounding overflows exactly from half a last place above the largest finite value on; the tie is even at the
infinity, since the largest finite pattern is odd. -/
theorem roundMag_eq_infMag_iff (num : Nat) {den : Nat} (hden : 0 < den) :
    roundMag num den = infMag ↔ (2 ^ 54 - 1) * 2 ^ 2044 * den ≤ num := by
  have hiff : roundMag num den = infMag ↔ infMag ≤ roundWide num den := by
    rw [roundMag_eq, min_eq_left_iff]
  obtain ⟨hmid, horder⟩ := overflow_midpoint hden
  rw [hiff]
  generalize (2 ^ 54 - 1) * 2 ^ 2044 * den = mid at hmid
  have hmono := fun a b h => Nat.mul_le_mul_right den (magUnits_strictMono.monotone (a := a) (b := b) h)
  constructor
  · intro hover
    have hnear := (roundWide_nearest num hden maxMag).left
    have hunits := hmono _ _ hover
    unfold roundDist at hnear
    omega
  · intro hover
    by_contra hlt
    have hmax : roundWide num den ≤ maxMag := Nat.le_pred_of_lt (not_le.mp hlt)
    have hunits := hmono _ _ hmax
    obtain ⟨hnear, htie⟩ := roundWide_nearest num hden infMag
    have hsame : magUnits (roundWide num den) * den = magUnits maxMag * den := by
      unfold roundDist at hnear
      omega
    have hodd : roundWide num den = maxMag :=
      magUnits_strictMono.injective (Nat.eq_of_mul_eq_mul_right hden hsame)
    have heven := htie (by unfold roundDist at hnear ⊢; omega) (by omega)
    rw [hodd] at heven
    exact absurd heven (by decide)

/-! ## Classes of data -/

theorem isFinite_iff {a : F64} : isFinite a = true ↔ magOf a < infMag := decide_eq_true_iff

theorem isNaN_iff {a : F64} : isNaN a = true ↔ infMag < magOf a := decide_eq_true_iff

theorem isInf_iff {a : F64} : isInf a = true ↔ magOf a = infMag := decide_eq_true_iff

theorem isZero_iff {a : F64} : isZero a = true ↔ magOf a = 0 := decide_eq_true_iff

theorem isNaN_eq_false_iff {a : F64} : isNaN a = false ↔ magOf a ≤ infMag := by
  rw [← Bool.not_eq_true, isNaN_iff, not_lt]

theorem isNaN_of_isInf {a : F64} (h : isInf a = true) : isNaN a = false :=
  isNaN_eq_false_iff.mpr (isInf_iff.mp h).le

theorem isFinite_of_isZero {a : F64} (h : isZero a = true) : isFinite a = true := by
  rw [isFinite_iff, isZero_iff.mp h]
  decide

theorem isZero_of_isInf {a : F64} (h : isInf a = true) : isZero a = false := by
  rw [← Bool.not_eq_true, isZero_iff, isInf_iff.mp h]
  decide

@[simp] theorem isInf_negf (a : F64) : isInf (negf a) = isInf a := by simp [isInf]

@[simp] theorem isFinite_negf (a : F64) : isFinite (negf a) = isFinite a := by simp [isFinite]

@[simp] theorem isZero_negf (a : F64) : isZero (negf a) = isZero a := by simp [isZero]

theorem unitsOf_pos_iff {a : F64} : 0 < unitsOf a ↔ isZero a = false := by
  rw [← Bool.not_eq_true, isZero_iff, Nat.pos_iff_ne_zero, unitsOf, ne_eq, magUnits_eq_zero_iff]

@[simp] theorem unitsOf_negf (a : F64) : unitsOf (negf a) = unitsOf a := by simp [unitsOf]

@[simp] theorem signedUnits_negf (a : F64) : signedUnits (negf a) = -signedUnits a := by
  rw [signedUnits_eq_withSign, signedUnits_eq_withSign, signOf_negf, unitsOf_negf]
  cases signOf a <;> simp [withSign]

/-! ## Signs of products -/

theorem sign_of_withSign_neg {neg : Bool} {u : Nat} (h : withSign neg u < 0) : neg = true := by
  cases neg with
  | true => rfl
  | false =>
    simp only [withSign, Bool.false_eq_true, if_false] at h
    omega

theorem sign_of_withSign_pos {neg : Bool} {u : Nat} (h : 0 < withSign neg u) : neg = false := by
  cases neg with
  | false => rfl
  | true =>
    simp only [withSign, if_true] at h
    omega

theorem signedUnits_mul (a b : F64) :
    signedUnits a * signedUnits b = withSign (signOf a != signOf b) (unitsOf a * unitsOf b) := by
  rw [signedUnits_eq_withSign, signedUnits_eq_withSign, withSign_mul]

/-- The exact quotient of finite data, in units, over the size of the divisor. -/
theorem signedUnits_quotient (a : F64) {b : F64} (hb : isZero b = false) :
    signedUnits a * (signedUnits b).sign * 2 ^ unitExp = withSign (signOf a != signOf b) (unitsOf a * 2 ^ unitExp) := by
  have hpos : (0 : Int) < unitsOf b := by exact_mod_cast unitsOf_pos_iff.mpr hb
  have hsign : (signedUnits b).sign = withSign (signOf b) 1 := by
    rw [signedUnits_eq_withSign]
    cases signOf b with
    | false => simpa [withSign] using Int.sign_eq_one_of_pos hpos
    | true => simpa [withSign] using Int.sign_eq_one_of_pos hpos
  rw [hsign, signedUnits_eq_withSign, withSign_mul, mul_one, withSign_mul_two_pow]

/-! ## The operators on finite data -/

/-- R11: a pattern packed from a rounded ratio, with the ratio's sign, is the ratio's rounding. -/
theorem isRounding_pack {neg : Bool} {num : Int} {den : Nat} (hden : 0 < den) (hneg : num < 0 → neg = true)
    (hpos : 0 < num → neg = false) : IsRounding (pack neg (roundMag num.natAbs den)) num den := by
  have hlt := roundMag_lt num.natAbs den
  have hmag : magOf (pack neg (roundMag num.natAbs den)) = roundMag num.natAbs den := magOf_pack _ _ hlt
  constructor
  case number =>
    rw [isNaN_eq_false_iff, hmag]
    exact roundMag_le _ _
  case negative => exact fun h => (signOf_pack _ _ hlt).trans (hneg h)
  case positive => exact fun h => (signOf_pack _ _ hlt).trans (hpos h)
  case overflow => rw [isInf_iff, hmag, roundMag_eq_infMag_iff _ hden]
  case nearest =>
    intro hfin m _
    rw [isFinite_iff, hmag] at hfin
    rw [unitsOf, hmag, roundMag_eq_roundWide hfin]
    exact (roundWide_nearest _ hden m).left
  case even =>
    intro hfin m _ hne heq
    rw [isFinite_iff, hmag] at hfin
    rw [unitsOf, hmag, roundMag_eq_roundWide hfin] at heq
    rw [hmag, roundMag_eq_roundWide hfin] at hne ⊢
    exact (roundWide_nearest _ hden m).right heq hne

theorem isRounding_withSign {neg : Bool} {u den : Nat} (hden : 0 < den) :
    IsRounding (pack neg (roundMag u den)) (withSign neg u) den := by
  have h := isRounding_pack (neg := neg) (num := withSign neg u) hden sign_of_withSign_neg sign_of_withSign_pos
  rwa [natAbs_withSign] at h

theorem fadd_of_finite (d : Nat) {a b : F64} (ha : isFinite a = true) (hb : isFinite b = true) :
    fadd d a b =
      if signedUnits a + signedUnits b = 0 then pack (signOf a && signOf b) 0
      else pack (decide (signedUnits a + signedUnits b < 0)) (roundMag (signedUnits a + signedUnits b).natAbs 1) := by
  simp [fadd, isNaN_of_isFinite, isInf_of_isFinite, ha, hb]

theorem fmul_of_finite (d : Nat) {a b : F64} (ha : isFinite a = true) (hb : isFinite b = true) :
    fmul d a b = pack (signOf a != signOf b) (roundMag (unitsOf a * unitsOf b) (2 ^ unitExp)) := by
  simp [fmul, isNaN_of_isFinite, isInf_of_isFinite, ha, hb]

theorem fdiv_of_finite (d : Nat) {a b : F64} (ha : isFinite a = true) (hb : isFinite b = true) (hz : isZero b = false) :
    fdiv d a b = pack (signOf a != signOf b) (roundMag (unitsOf a * 2 ^ unitExp) (unitsOf b)) := by
  simp [fdiv, isNaN_of_isFinite, isInf_of_isFinite, ha, hb, hz]

/-- R11: `+f` on finite data rounds the exact sum. -/
theorem isRounding_fadd (d : Nat) {a b : F64} (ha : isFinite a = true) (hb : isFinite b = true) :
    IsRounding (fadd d a b) (signedUnits a + signedUnits b) 1 := by
  rw [fadd_of_finite d ha hb]
  split
  · rename_i hzero
    have h := isRounding_pack (neg := signOf a && signOf b) (num := 0) one_pos (by simp) (by simp)
    rw [hzero]
    rwa [Int.natAbs_zero, roundMag_zero one_pos] at h
  · exact isRounding_pack one_pos decide_eq_true fun h => decide_eq_false (by omega)

/-- R11: `*f` on finite data rounds the exact product. -/
theorem isRounding_fmul (d : Nat) {a b : F64} (ha : isFinite a = true) (hb : isFinite b = true) :
    IsRounding (fmul d a b) (signedUnits a * signedUnits b) (2 ^ unitExp) := by
  rw [fmul_of_finite d ha hb, signedUnits_mul]
  exact isRounding_withSign (Nat.two_pow_pos _)

/-- R11: `/f` on finite data, by a divisor that is no zero, rounds the exact quotient. -/
theorem isRounding_fdiv (d : Nat) {a b : F64} (ha : isFinite a = true) (hb : isFinite b = true) (hz : isZero b = false) :
    IsRounding (fdiv d a b) (signedUnits a * (signedUnits b).sign * 2 ^ unitExp) (signedUnits b).natAbs := by
  rw [fdiv_of_finite d ha hb hz, signedUnits_quotient a hz, natAbs_signedUnits]
  exact isRounding_withSign (unitsOf_pos_iff.mpr hz)

theorem signOf_fmul (d : Nat) {a b : F64} (ha : isFinite a = true) (hb : isFinite b = true) :
    signOf (fmul d a b) = (signOf a != signOf b) := by
  rw [fmul_of_finite d ha hb, signOf_pack _ _ (roundMag_lt _ _)]

theorem signOf_fdiv (d : Nat) {a b : F64} (ha : isFinite a = true) (hb : isFinite b = true) (hz : isZero b = false) :
    signOf (fdiv d a b) = (signOf a != signOf b) := by
  rw [fdiv_of_finite d ha hb hz, signOf_pack _ _ (roundMag_lt _ _)]

/-- An exact zero sum is +0.0 unless both operands are negative (log 11). -/
theorem signOf_fadd_of_zero (d : Nat) {a b : F64} (ha : isFinite a = true) (hb : isFinite b = true)
    (h : signedUnits a + signedUnits b = 0) : signOf (fadd d a b) = (signOf a && signOf b) := by
  rw [fadd_of_finite d ha hb, if_pos h, signOf_pack _ _ (by decide)]

/-- R11: `f64` of an integer of at most 53 bits, 2^53 included, is exact. -/
theorem f64OfInt_exact_of_le {v : Int} (hv : v.natAbs ≤ 2 ^ 53) :
    isFinite (f64OfInt v) = true ∧ signedUnits (f64OfInt v) = v * 2 ^ unitExp := by
  obtain hlt | heq := Nat.lt_or_eq_of_le hv
  · exact f64OfInt_exact hlt
  · obtain rfl | rfl : v = 2 ^ 53 ∨ v = -2 ^ 53 := by omega
    · decide +kernel
    · decide +kernel

@[simp] theorem f64OfInt_zero : f64OfInt 0 = 0#64 := by
  simp [f64OfInt, pack]

/-! ## The operators on NaNs, infinities and zeros -/

@[simp] theorem isInf_pack_infMag (neg : Bool) : isInf (pack neg infMag) = true := by
  rw [isInf_iff, magOf_pack _ _ (by decide)]

@[simp] theorem signOf_pack_infMag (neg : Bool) : signOf (pack neg infMag) = neg := signOf_pack _ _ (by decide)

theorem fadd_of_isInf (d : Nat) {a b : F64} (ha : isInf a = true) (hb : isNaN b = false) :
    fadd d a b = if isInf b && (signOf a != signOf b) then freeNaN d else a := by
  simp [fadd, isNaN_of_isInf ha, hb, ha]

theorem fadd_of_isInf_right (d : Nat) {a b : F64} (ha : isFinite a = true) (hb : isInf b = true) : fadd d a b = b := by
  simp [fadd, isNaN_of_isFinite ha, isNaN_of_isInf hb, isInf_of_isFinite ha, hb]

theorem fmul_of_isInf (d : Nat) {a b : F64} (h : isInf a = true ∨ isInf b = true) (ha : isNaN a = false)
    (hb : isNaN b = false) :
    fmul d a b = if isZero a || isZero b then freeNaN d else pack (signOf a != signOf b) infMag := by
  simp [fmul, ha, hb, h]

theorem fdiv_of_isInf (d : Nat) {a b : F64} (ha : isInf a = true) (hb : isNaN b = false) :
    fdiv d a b = if isInf b then freeNaN d else pack (signOf a != signOf b) infMag := by
  simp [fdiv, isNaN_of_isInf ha, hb, ha]

theorem fdiv_of_isInf_right (d : Nat) {a b : F64} (ha : isFinite a = true) (hb : isInf b = true) :
    fdiv d a b = pack (signOf a != signOf b) 0 := by
  simp [fdiv, isNaN_of_isFinite ha, isNaN_of_isInf hb, isInf_of_isFinite ha, hb]

theorem fdiv_of_isZero (d : Nat) {a b : F64} (ha : isFinite a = true) (hb : isZero b = true) :
    fdiv d a b = if isZero a then freeNaN d else pack (signOf a != signOf b) infMag := by
  have hfin := isFinite_of_isZero hb
  simp [fdiv, isNaN_of_isFinite, isInf_of_isFinite, ha, hfin, hb]

/-- IEEE 754's rules for NaNs, infinities and zero divisors (log 11), one operator and class of operands at a time. -/
theorem specialResults (d : Nat) (a b : F64) : SpecialResults d a b where
  nan := fun h => ⟨isNaN_fadd_of_nan d h, isNaN_fadd_of_nan d (by simpa using h), isNaN_fmul_of_nan d h,
    isNaN_fdiv_of_nan d h⟩
  infPlusInf := fun ha hb => by
    have hn := isNaN_of_isInf hb
    have hadd := fadd_of_isInf d ha hn
    have hsub := fadd_of_isInf d ha (b := negf b) (by simpa using hn)
    refine ⟨fun hsign => ⟨?_, ?_⟩, fun hsign => ⟨?_, ?_⟩⟩
    · simpa [hb, hsign] using hadd
    · rw [fsub, hsub]
      simp [hb, hsign]
    · rw [hadd]
      simp [hb, hsign]
    · rw [fsub, hsub]
      have hopp : signOf a = !signOf b := Bool.eq_not.mpr hsign
      simp [hopp]
  infPlusFinite := fun ha hb => by
    have hn := isNaN_of_isFinite hb
    have hi := isInf_of_isFinite hb
    refine ⟨?_, fadd_of_isInf_right d hb ha, ?_, fadd_of_isInf_right d hb (by simpa using ha)⟩
    · simpa [hi] using fadd_of_isInf d ha hn
    · rw [fsub]
      simpa [hi] using fadd_of_isInf d ha (b := negf b) (by simpa using hn)
  infTimesZero := fun ha hb => by
    have hna := isNaN_of_isInf ha
    have hnb := isNaN_of_isFinite (isFinite_of_isZero hb)
    rw [fmul_of_isInf d (.inl ha) hna hnb, fmul_of_isInf d (.inr ha) hnb hna]
    simp [hb]
  infTimes := fun ha hnb hz => by
    have hna := isNaN_of_isInf ha
    rw [fmul_of_isInf d (.inl ha) hna hnb, fmul_of_isInf d (.inr ha) hnb hna]
    simp [hz, isZero_of_isInf ha, Bool.xor_comm]
  infOverInf := fun ha hb => by
    rw [fdiv_of_isInf d ha (isNaN_of_isInf hb)]
    simp [hb]
  infOverFinite := fun ha hb => by
    rw [fdiv_of_isInf d ha (isNaN_of_isFinite hb)]
    simp [isInf_of_isFinite hb]
  finiteOverInf := fun ha hb => by
    rw [fdiv_of_isInf_right d ha hb, isZero_iff]
    exact ⟨magOf_pack _ _ (by decide), signOf_pack _ _ (by decide)⟩
  zeroOverZero := fun ha hb => by
    rw [fdiv_of_isZero d (isFinite_of_isZero ha) hb]
    simp [ha]
  finiteOverZero := fun ha hz hb => by
    rw [fdiv_of_isZero d ha hb]
    simp [hz]

/-- Settles O46: rounding is `roundWide_nearest` below its overflow, the operators round exact results, and the rest is
IEEE 754's table. -/
theorem roundingIsToNearestEven : Obligations.RoundingIsToNearestEven := by
  unfold Obligations.RoundingIsToNearestEven
  refine ⟨fun num den m hden _ => ⟨roundMag_eq_infMag_iff num hden, fun hfin => ?_⟩, fun d a b ha hb => ?_, fun i hi => ?_,
    specialResults, fun a => ⟨magOf_negf a, signOf_negf a, magOf_fabs a, signOf_fabs a⟩⟩
  · rw [roundMag_eq_roundWide hfin]
    exact roundWide_nearest num hden m
  · have hnegb : isFinite (negf b) = true := by simpa using hb
    have hsub : signedUnits a - signedUnits b = signedUnits a + signedUnits (negf b) := by
      rw [signedUnits_negf, sub_eq_add_neg]
    rw [hsub]
    refine ⟨isRounding_fadd d ha hb, isRounding_fadd d ha hnegb, isRounding_fmul d ha hb, isRounding_fdiv d ha hb,
      signOf_fadd_of_zero d ha hb, fun hzero => ?_, signOf_fmul d ha hb, signOf_fdiv d ha hb⟩
    rw [fsub, signOf_fadd_of_zero d ha hnegb hzero, signOf_negf]
  · obtain ⟨hfin, hunits⟩ := f64OfInt_exact_of_le hi
    exact ⟨hfin, hunits, fun hzero => hzero ▸ f64OfInt_zero⟩

/-! ## The order -/

/-- R11: the integers that order the patterns order the values. -/
theorem orderKey_le_iff (a b : F64) : orderKey a ≤ orderKey b ↔ signedUnits a ≤ signedUnits b := by
  have hab : magOf a ≤ magOf b ↔ unitsOf a ≤ unitsOf b := magUnits_strictMono.le_iff_le.symm
  have hba : magOf b ≤ magOf a ↔ unitsOf b ≤ unitsOf a := magUnits_strictMono.le_iff_le.symm
  have hzero : ∀ x : F64, unitsOf x = 0 ↔ magOf x = 0 := fun x => magUnits_eq_zero_iff _
  have ha := hzero a
  have hb := hzero b
  unfold orderKey signedUnits
  split_ifs <;> omega

/-- Settles O47: the comparison on finite data is that of the order keys. -/
theorem floatOrderIsOrderOfValues : Obligations.FloatOrderIsOrderOfValues := by
  unfold Obligations.FloatOrderIsOrderOfValues
  refine fun a b => ⟨fun ha hb => ?_, fle_eq_false_of_nan⟩
  rw [← orderKey_le_iff]
  simp [fle, isNaN_of_isFinite, ha, hb]

/-- R131: a size is within a positive limit that is a number exactly where its pattern is; no NaN is. -/
theorem fle_fabs_iff {limit : F64} (hnum : isNaN limit = false) (hpos : signOf limit = false) (x : F64) :
    fle (fabs x) limit = true ↔ magOf x ≤ magOf limit := by
  have hlimit := isNaN_eq_false_iff.mp hnum
  simp only [fle, orderKey, isNaN_fabs, hnum, signOf_fabs, magOf_fabs, hpos, Bool.false_eq_true, if_false, Bool.not_false,
    Bool.and_true, Bool.and_eq_true, Bool.not_eq_true', isNaN_eq_false_iff, decide_eq_true_eq]
  omega

/-- Settles O48: a NaN's pattern is above every number's, that of 45.0 too. -/
theorem limitComparatorRejectsNaN : Obligations.LimitComparatorRejectsNaN := by
  unfold Obligations.LimitComparatorRejectsNaN
  intro x
  have hmag : magOf 0x4046800000000000#64 = 0x4046800000000000 := by decide
  rw [exceeds, Bool.not_eq_true', ← Bool.not_eq_true, fle_fabs_iff (by decide) (by decide), hmag, isNaN_iff]
  simp only [infMag]
  omega

end Sys2Proof.Machine

/-! PROOFS of the statements on the host's lines (R90, R91) and on the arithmetic of the filter: the gyro limit (R133), the
delta in seconds (R111), the angle correction (R105), the oddness of the reference ATAN2 (D3), and no drift at rest
(R119). -/

namespace Sys2Proof.Machine

/-! ## Comparing sizes -/

theorem fabs_of_pos {x : F64} (h : signOf x = false) : fabs x = x := by
  rw [← pack_signOf_magOf (fabs x), signOf_fabs, magOf_fabs, ← h, pack_signOf_magOf]

/-- R11: a positive number is at most a size exactly where its pattern is. -/
theorem le_fabs_iff {limit x : F64} (hlimit : isNaN limit = false) (hpos : signOf limit = false) (hx : isNaN x = false) :
    fle limit (fabs x) = true ↔ magOf limit ≤ magOf x := by
  simp [fle, orderKey, hlimit, hpos, hx]

/-! ## The host's lines -/

theorem expandLine_wellFormed (l : HostLine) : (expandLine l).WellFormed = true := by
  cases l <;> rfl

/-- R91: the two bytes of WRS as a word. -/
theorem setWidth_append_bytes (hi lo : BitVec 8) :
    (hi ++ lo).setWidth 64 = BitVec.ofNat 64 (hi.toNat * 256 + lo.toNat) := by
  rw [← toNat_append_bytes, BitVec.ofNat_toNat]

/-- R91: WRV writes the integer modulo 65536. -/
theorem setWidth_ofInt (v : Int) : (BitVec.ofInt 16 v).setWidth 64 = BitVec.ofInt 64 (v % 65536) := by
  apply BitVec.eq_of_toNat_eq
  rw [BitVec.toNat_setWidth, BitVec.toNat_ofInt, BitVec.toNat_ofInt]
  omega

/-- R91: WRC's VALID bit is above the character. -/
theorem valid_or_char (ch : BitVec 8) : 0x100#64 ||| ch.setWidth 64 = BitVec.ofNat 64 (0x100 + ch.toNat) := by
  have hch := ch.isLt
  apply BitVec.eq_of_toNat_eq
  rw [BitVec.toNat_or, BitVec.toNat_ofNat, BitVec.toNat_ofNat, BitVec.toNat_setWidth, Nat.mod_eq_of_lt (by omega),
    Nat.mod_eq_of_lt (by omega), Nat.mod_eq_of_lt (by omega)]
  exact (Nat.two_pow_add_eq_or_of_lt (i := 8) hch 1).symm

/-- R91: WRF's real number is rounded once to nearest. -/
theorem isRounding_ratioToF64 (num : Int) {den : Nat} (hden : 0 < den) :
    IsRounding (ratioToF64 num den) (num * 2 ^ unitExp) den := by
  have hval : withSign (decide (num < 0)) (num.natAbs * 2 ^ unitExp) = num * 2 ^ unitExp := by
    rw [← withSign_mul_two_pow, withSign_decide_natAbs]
  rw [← hval]
  exact isRounding_withSign hden

theorem ratioToF64_zero {den : Nat} (hden : 0 < den) : ratioToF64 0 den = 0#64 := by
  simp [ratioToF64, hden, pack]

/-- Settles O5: each line is one write or read by its definition; what is left are the data of WRS, WRV, WRF and WRC. -/
theorem hostLinesAreSingleTransactions : Obligations.HostLinesAreSingleTransactions := by
  unfold Obligations.HostLinesAreSingleTransactions
  refine ⟨fun l => decodeOfEncode _ (expandLine_wellFormed l), fun r v => ⟨rfl, rfl⟩, by decide, fun p hp => ?_,
    fun r num den hden => ?_, fun ns => rfl, fun ch => ?_, fun s => ?_⟩
  · have hoff : ∀ p ∈ [(Axis.ax, 0x20#8), (.ay, 0x28#8), (.az, 0x30#8), (.gx, 0x38#8), (.gy, 0x40#8), (.gz, 0x48#8)],
        regOffset (sampleReg p.1) = p.2 := by decide
    rw [← hoff p hp]
    exact ⟨fun hi lo => congrArg (Instr.wr _ 8) (setWidth_append_bytes hi lo),
      fun v => congrArg (Instr.wr _ 8) (setWidth_ofInt v)⟩
  · exact ⟨_, rfl, isRounding_ratioToF64 num hden, fun hzero => hzero ▸ ratioToF64_zero hden⟩
  · exact congrArg (Instr.wr _ 8) (valid_or_char ch)
  · exact ⟨cmdWritePerformsCommand .nop s, cmdWritePerformsCommand .sync s, cmdWritePerformsCommand .update s,
      cmdWritePerformsCommand .lock s, cmdWritePerformsCommand .abort s⟩

/-! ## The gyro limit -/

theorem natAbs_mul_two_pow (v : Int) (n : Nat) : (v * 2 ^ n).natAbs = v.natAbs * 2 ^ n := by
  rw [Int.natAbs_mul, Int.natAbs_pow]
  rfl

/-- Settles O51: a rate is exactly its raw value times 125 * 2^1061 units, and 300.0 is 2457600 of those: 19660.8 counts. -/
theorem gyroLimitInRawCounts : Obligations.GyroLimitInRawCounts := by
  unfold Obligations.GyroLimitInRawCounts
  intro c d w hfsr hhalf hlimit
  obtain ⟨hlo, hhi⟩ := raw_bounds w
  obtain ⟨-, hval⟩ := scale_exact c d hhalf exactRange_gyroFsr hlo hhi
  have hunits : unitsOf (gyroRate c d w) = (raw w).natAbs * 125 * 2 ^ 1061 := by
    rw [← natAbs_signedUnits, gyroRate, hfsr, hval, ← mul_assoc, natAbs_mul_two_pow, Int.natAbs_mul, Int.natAbs_natCast]
  have hlimitUnits : unitsOf 0x4072C00000000000#64 = 2457600 * 2 ^ 1061 := by decide +kernel
  have hle : magOf (gyroRate c d w) ≤ magOf 0x4072C00000000000#64 ↔ (raw w).natAbs * 125 ≤ 2457600 := by
    rw [← magUnits_strictMono.le_iff_le, ← unitsOf, ← unitsOf, hunits, hlimitUnits,
      Nat.mul_le_mul_right_iff (Nat.two_pow_pos _)]
  rw [violGyro, exceeds, hlimit, Bool.not_eq_true', ← Bool.not_eq_true, fle_fabs_iff (by decide) (by decide), hle]
  omega

/-! ## Sums and the reference ATAN2 up to the NaN -/

/-- Data of one class, sign and magnitude are one pattern. -/
theorem eq_of_signOf_magOf {a b : F64} (hsign : signOf a = signOf b) (hmag : magOf a = magOf b) : a = b := by
  rw [← pack_signOf_magOf a, ← pack_signOf_magOf b, hsign, hmag]

/-- The sum does not depend on the order of its operands. -/
theorem fadd_comm (d e : Nat) (a b : F64) : SameDatum (fadd d a b) (fadd e b a) := by
  have hclass : ∀ x : F64, isNaN x = true ∨ isInf x = true ∨ isFinite x = true := fun x => by
    rw [isNaN_iff, isInf_iff, isFinite_iff]
    omega
  rcases hclass a with ha | ha | ha
  · exact .inr ⟨isNaN_fadd_of_nan d (.inl ha), isNaN_fadd_of_nan e (.inr ha)⟩
  · rcases hclass b with hb | hb | hb
    · exact .inr ⟨isNaN_fadd_of_nan d (.inr hb), isNaN_fadd_of_nan e (.inl hb)⟩
    · obtain ⟨hsame, hopposite⟩ := (specialResults d a b).infPlusInf ha hb
      obtain ⟨hsame', hopposite'⟩ := (specialResults e b a).infPlusInf hb ha
      by_cases hsign : signOf a = signOf b
      · have hab : a = b := eq_of_signOf_magOf hsign ((isInf_iff.mp ha).trans (isInf_iff.mp hb).symm)
        rw [(hsame hsign).left, (hsame' hsign.symm).left, hab]
        exact .refl _
      · exact .inr ⟨(hopposite hsign).left, (hopposite' (Ne.symm hsign)).left⟩
    · rw [((specialResults d a b).infPlusFinite ha hb).left, ((specialResults e a b).infPlusFinite ha hb).right.left]
      exact .refl _
  · rcases hclass b with hb | hb | hb
    · exact .inr ⟨isNaN_fadd_of_nan d (.inr hb), isNaN_fadd_of_nan e (.inl hb)⟩
    · rw [((specialResults d b a).infPlusFinite hb ha).right.left, ((specialResults e b a).infPlusFinite hb ha).left]
      exact .refl _
    · rw [fadd_of_finite d ha hb, fadd_of_finite e hb ha, add_comm, Bool.and_comm]
      exact .refl _

/-- Settles O52: both forms are the sum of the angle and the negated bias. -/
theorem debiasAngleIsSubtraction : Obligations.DebiasAngleIsSubtraction := by
  unfold Obligations.DebiasAngleIsSubtraction
  exact fun d e deg bias => fadd_comm d e (negf bias) deg

theorem angleMag_le (y x : Nat) (xneg : Bool) : angleMag y x xneg ≤ infMag := by
  unfold angleMag
  exact roundMag_le _ _

theorem refAtan2Mag_le (y x : F64) : refAtan2Mag y x ≤ infMag := by
  unfold refAtan2Mag
  have hconst : threeQuarterPiMag ≤ infMag ∧ quarterPiMag ≤ infMag ∧ halfPiMag ≤ infMag ∧ piMag ≤ infMag := by decide
  split_ifs <;> first | omega | exact angleMag_le _ _ _

/-- D3: the size of the reference's result does not depend on the sign of its first operand. -/
theorem refAtan2Mag_negf (y x : F64) : refAtan2Mag (negf y) x = refAtan2Mag y x := by
  simp [refAtan2Mag]

theorem negf_pack {neg : Bool} {m : Nat} (h : m < 2 ^ 63) : negf (pack neg m) = pack (!neg) m := by
  apply eq_of_signOf_magOf
  · rw [signOf_negf, signOf_pack _ _ h, signOf_pack _ _ h]
  · rw [magOf_negf, magOf_pack _ _ h, magOf_pack _ _ h]

/-- Settles O57: negating the operand changes the sign of the result and not its size. -/
theorem referenceAtan2IsOdd : Obligations.ReferenceAtan2IsOdd := by
  unfold Obligations.ReferenceAtan2IsOdd
  intro d e y x
  unfold refAtan2
  rw [isNaN_negf, refAtan2Mag_negf, signOf_negf]
  split
  · exact .inr ⟨isNaN_freeNaN d, by simp⟩
  · rw [negf_pack (lt_of_le_of_lt (refAtan2Mag_le y x) (by decide))]
    exact .refl _

/-! ## The delta in seconds -/

/-- Rounding a quotient depends on the ratio only. -/
theorem rneDiv_scale (n d : Nat) {k : Nat} (hk : 0 < k) : rneDiv (n * k) (d * k) = rneDiv n d := by
  have hlt : 2 * (n % d * k) < d * k ↔ 2 * (n % d) < d := by
    rw [← mul_assoc]
    exact Nat.mul_lt_mul_right hk
  have heq : 2 * (n % d * k) = d * k ↔ 2 * (n % d) = d := by
    rw [← mul_assoc]
    exact Nat.mul_left_inj hk.ne'
  rw [rneDiv, rneDiv, Nat.mul_div_mul_right _ _ hk, Nat.mul_mod_mul_right]
  simp only [hlt, heq]

/-- Rounding depends on the ratio only. -/
theorem roundMag_scale (num den : Nat) {k : Nat} (hk : 0 < k) : roundMag (num * k) (den * k) = roundMag num den := by
  rw [roundMag, roundMag, Nat.mul_div_mul_right _ _ hk, mul_right_comm den k, rneDiv_scale _ _ hk]

theorem signOf_f64OfInt (v : Int) : signOf (f64OfInt v) = decide (v < 0) := signOf_pack _ _ (roundMag_lt _ _)

/-- The value of a converted integer of at most 53 bits, without its sign. -/
theorem unitsOf_f64OfInt {v : Int} (hv : v.natAbs ≤ 2 ^ 53) : unitsOf (f64OfInt v) = v.natAbs * 2 ^ unitExp := by
  rw [← natAbs_signedUnits, (f64OfInt_exact_of_le hv).right, natAbs_mul_two_pow]

theorem isZero_f64OfInt {v : Int} (hv : v.natAbs ≤ 2 ^ 53) : isZero (f64OfInt v) = decide (v = 0) := by
  rw [Bool.eq_iff_iff, decide_eq_true_eq, ← not_iff_not, Bool.not_eq_true, ← unitsOf_pos_iff, unitsOf_f64OfInt hv,
    Nat.mul_pos_iff_of_pos_right (Nat.two_pow_pos _), Int.natAbs_pos]

/-- R111: the quotient of two integers of at most 53 bits is their ratio rounded once. -/
theorem fdiv_f64OfInt (d : Nat) {v w : Int} (hv : v.natAbs ≤ 2 ^ 53) (hw : w.natAbs ≤ 2 ^ 53) (hpos : 0 < w) :
    fdiv d (f64OfInt v) (f64OfInt w) = pack (decide (v < 0)) (roundMag (v.natAbs * 2 ^ unitExp) w.natAbs) := by
  have hz : isZero (f64OfInt w) = false := by
    rw [isZero_f64OfInt hw]
    exact decide_eq_false hpos.ne'
  rw [fdiv_of_finite d (f64OfInt_exact_of_le hv).left (f64OfInt_exact_of_le hw).left hz, signOf_f64OfInt, signOf_f64OfInt,
    decide_eq_false hpos.not_gt, Bool.bne_false, unitsOf_f64OfInt hv, unitsOf_f64OfInt hw,
    roundMag_scale _ _ (Nat.two_pow_pos _)]

/-- R111: the seconds of a delta, with the default second. -/
theorem dtSeconds_eq {c : Config} (hc : c.nsPerS = 1000000000) (d : Nat) {delta : Int} (hdelta : delta.natAbs ≤ 2 ^ 53) :
    dtSeconds c d delta = pack (decide (delta < 0)) (roundMag (delta.natAbs * 2 ^ unitExp) 1000000000) := by
  rw [dtSeconds, hc, fdiv_f64OfInt d hdelta (w := ((1000000000 : Nat) : Int)) (by decide) (by decide), Int.natAbs_natCast]

/-- R111: 1e-9 rounded, and 1.0. -/
theorem roundMag_nanosecond : roundMag (1 * 2 ^ unitExp) 1000000000 = 0x3E112E0BE826D695 := by decide +kernel

theorem roundMag_second : roundMag (1000000000 * 2 ^ unitExp) 1000000000 = 0x3FF0000000000000 := by decide +kernel

/-- Settles O54: the quotient is rounded once, and rounding keeps the order between its two ends. -/
theorem secondsArePositiveAndBounded : Obligations.SecondsArePositiveAndBounded := by
  unfold Obligations.SecondsArePositiveAndBounded
  intro c d delta hc hlo hhi
  have hsec := dtSeconds_eq hc d (delta := delta) (by omega)
  rw [decide_eq_false (by omega)] at hsec
  have hlow : 0x3E112E0BE826D695 ≤ roundMag (delta.natAbs * 2 ^ unitExp) 1000000000 := by
    rw [← roundMag_nanosecond]
    exact roundMag_mono (by decide) (Nat.mul_le_mul_right _ (by omega))
  have hhigh : roundMag (delta.natAbs * 2 ^ unitExp) 1000000000 ≤ 0x3FF0000000000000 := by
    rw [← roundMag_second]
    exact roundMag_mono (by decide) (Nat.mul_le_mul_right _ (by omega))
  have hmag : magOf (dtSeconds c d delta) = roundMag (delta.natAbs * 2 ^ unitExp) 1000000000 := by
    rw [hsec, magOf_pack _ _ (roundMag_lt _ _)]
  have hsign : signOf (dtSeconds c d delta) = false := by rw [hsec, signOf_pack _ _ (roundMag_lt _ _)]
  have hfin : isFinite (dtSeconds c d delta) = true := by
    rw [isFinite_iff, hmag]
    exact lt_of_le_of_lt hhigh (by decide)
  refine ⟨?_, hfin, ?_, ?_, ?_, ?_, ?_⟩
  · have hval : withSign false (delta.natAbs * 2 ^ unitExp) = delta * 2 ^ unitExp := by
      rw [← withSign_mul_two_pow, withSign, if_neg Bool.false_ne_true, Int.natAbs_of_nonneg (by omega)]
    rw [hsec, ← hval]
    exact isRounding_withSign (by decide)
  · have hunits : 0 < unitsOf (dtSeconds c d delta) := by
      rw [unitsOf_pos_iff, ← Bool.not_eq_true, isZero_iff, hmag]
      omega
    rw [signedUnits, hsign, if_neg Bool.false_ne_true]
    exact_mod_cast hunits
  · rw [← fabs_of_pos hsign, le_fabs_iff (by decide) (by decide) (isNaN_of_isFinite hfin), hmag]
    exact hlow
  · rw [← fabs_of_pos hsign, fle_fabs_iff (by decide) (by decide), hmag]
    exact hhigh
  · rintro rfl
    rw [hsec, Int.natAbs_one, roundMag_nanosecond]
    rfl
  · rintro rfl
    have hnat : Int.natAbs 1000000000 = 1000000000 := rfl
    rw [hsec, hnat, roundMag_second]
    rfl

/-! ## No drift at rest -/

theorem isZero_pack_zero (neg : Bool) : isZero (pack neg 0) = true := by
  rw [isZero_iff, magOf_pack _ _ (by decide)]

theorem unitsOf_eq_zero_iff {a : F64} : unitsOf a = 0 ↔ isZero a = true := by
  rw [unitsOf, magUnits_eq_zero_iff, isZero_iff]

/-- A finite product with a zero operand is a zero. -/
theorem isZero_fmul (d : Nat) {a b : F64} (ha : isFinite a = true) (hb : isFinite b = true)
    (h : isZero a = true ∨ isZero b = true) : isZero (fmul d a b) = true := by
  have hprod : unitsOf a * unitsOf b = 0 := by
    rw [Nat.mul_eq_zero, unitsOf_eq_zero_iff, unitsOf_eq_zero_iff]
    exact h
  rw [fmul_of_finite d ha hb, hprod, roundMag_zero (Nat.two_pow_pos _)]
  exact isZero_pack_zero _

/-- Adding a zero does not move a finite datum's size. -/
theorem magOf_fadd_zero (d : Nat) {x z : F64} (hx : isFinite x = true) (hz : isZero z = true) :
    magOf (fadd d x z) = magOf x := by
  have hzero : signedUnits z = 0 := by
    rw [← Int.natAbs_eq_zero, natAbs_signedUnits]
    exact unitsOf_eq_zero_iff.mpr hz
  rw [fadd_of_finite d hx (isFinite_of_isZero hz), hzero, add_zero]
  split
  · rename_i hsum
    have hmag : magOf x = 0 := by
      rw [← magUnits_eq_zero_iff, ← unitsOf, ← natAbs_signedUnits, hsum, Int.natAbs_zero]
    rw [magOf_pack _ _ (by decide), hmag]
  · have hround := roundMag_magUnits one_pos (isFinite_iff.mp hx).le
    rw [mul_one] at hround
    rw [natAbs_signedUnits, unitsOf, hround, magOf_pack _ _ (magOf_lt x)]

/-- R119: 44.0 times ALPHA is below 0.89. -/
theorem magOf_fmul_alpha (d : Nat) {a : F64} (ha : magOf a ≤ 0x4046000000000000) :
    magOf (fmul d a 0x3F947AE147AE147B#64) < 0x3FEC7AE147AE147B := by
  have hfin : isFinite a = true := isFinite_iff.mpr (lt_of_le_of_lt ha (by decide))
  rw [fmul_of_finite d hfin (by decide), magOf_pack _ _ (roundMag_lt _ _)]
  have hbound : magUnits 0x4046000000000000 * unitsOf 0x3F947AE147AE147B#64 ≤
      magUnits (0x3FEC7AE147AE147B - 1) * 2 ^ unitExp := by decide +kernel
  have hround : roundMag (unitsOf a * unitsOf 0x3F947AE147AE147B#64) (2 ^ unitExp) ≤ 0x3FEC7AE147AE147B - 1 :=
    roundMag_le_of_le (Nat.two_pow_pos _)
      ((Nat.mul_le_mul_right _ (magUnits_strictMono.monotone ha)).trans hbound)
  omega

/-- R119: one axis at rest: its rate is zero, so the previous estimate is multiplied by zero and what is left is ALPHA
times the accelerometer angle. -/
theorem fuse_at_rest {c : Config} (hform : c.fusion = .multiplicative) (halpha : c.alpha = 0x3F947AE147AE147B#64)
    (hbeta : c.oneMinusAlpha = 0x3FEF5C28F5C28F5C#64) (d e : Nat) {accel rate seconds prev : F64}
    (hrate : isZero rate = true) (hseconds : isFinite seconds = true) (hprev : isFinite prev = true)
    (haccel : fle (fabs accel) 0x4046000000000000#64 = true) :
    isNaN (fuse c d accel (deltaAngle e rate seconds) prev) = false ∧
      fle 0x3FEC7AE147AE147B#64 (fabs (fuse c d accel (deltaAngle e rate seconds) prev)) = false := by
  rw [fle_fabs_iff (by decide) (by decide)] at haccel
  have hangle : isZero (deltaAngle e rate seconds) = true := isZero_fmul e (isFinite_of_isZero hrate) hseconds (.inl hrate)
  have hgyro := isZero_fmul (d + 1) (isFinite_of_isZero hangle) hprev (.inl hangle)
  have hweighted := isZero_fmul (d + 2) (a := 0x3FEF5C28F5C28F5C#64) (by decide) (isFinite_of_isZero hgyro) (.inr hgyro)
  have hsmall := magOf_fmul_alpha d haccel
  have hfin : isFinite (fmul d accel 0x3F947AE147AE147B#64) = true := isFinite_iff.mpr (hsmall.trans (by decide))
  have hmag := magOf_fadd_zero (d + 3) hfin hweighted
  simp only [fuse, hform, halpha, hbeta]
  rw [← hmag] at hsmall
  have hnum := isNaN_eq_false_iff.mpr (hsmall.trans (by decide : 0x3FEC7AE147AE147B < infMag)).le
  refine ⟨hnum, ?_⟩
  rw [← Bool.not_eq_true, le_fabs_iff (by decide) (by decide) hnum, not_le]
  exact hsmall

/-- With the default second, the seconds of any two timestamps are finite, in an unreachable state too. -/
theorem isFinite_updateSeconds {s : State} (hc : s.cfg.nsPerS = 1000000000) : isFinite (updateSeconds s) = true := by
  have hts := s.inputs.ts.isLt
  have hprev := s.prevTs.isLt
  have hdelta : (updateDelta s).natAbs ≤ 2 ^ 53 := by
    rw [updateDelta, dtDelta, hc, tsOf]
    split <;> omega
  have hbound : 2 ^ 53 * 2 ^ unitExp ≤ magUnits maxMag * 1000000000 := by decide +kernel
  have hround : roundMag ((updateDelta s).natAbs * 2 ^ unitExp) 1000000000 ≤ maxMag :=
    roundMag_le_of_le (by decide) ((Nat.mul_le_mul_right _ hdelta).trans hbound)
  rw [updateSeconds, dtSeconds_eq hc _ hdelta, isFinite_iff, magOf_pack _ _ (roundMag_lt _ _)]
  exact lt_of_le_of_lt hround (by decide)

/-- Settles O58: both axes are `fuse_at_rest`. -/
theorem noDriftAtRest : Obligations.NoDriftAtRest := by
  unfold Obligations.NoDriftAtRest
  intro s t hadm hgood hform halpha hbeta hns h
  cases (exec_update_of_good hadm hgood).symm.trans h
  have hseconds := isFinite_updateSeconds hns
  rw [goodPath_est]
  dsimp only
  exact ⟨fun hrate hprev haccel => fuse_at_rest hform halpha hbeta _ _ hrate hseconds hprev haccel,
    fun hrate hprev haccel => fuse_at_rest hform halpha hbeta _ _ hrate hseconds hprev haccel⟩

end Sys2Proof.Machine

/-! PROOFS of the statements on the inclination (R112, D3): the fixed-point arctangent grows with the ratio, so an angle of
the reference is bounded by the diagonal's, and the bounds in degrees follow since rounding keeps the order. -/

namespace Sys2Proof.Machine

/-! ## The arctangent grows with the ratio -/

/-- A quotient is at most another where the fractions are. -/
theorem div_le_div_of_cross {a b a' b' : Nat} (hb : 0 < b) (hb' : 0 < b') (h : a * b' ≤ a' * b) : a / b ≤ a' / b' := by
  rw [Nat.le_div_iff_mul_le hb']
  refine Nat.le_of_mul_le_mul_right ?_ hb
  calc a / b * b' * b = a / b * b * b' := by ring
    _ ≤ a * b' := Nat.mul_le_mul_right b' (Nat.div_mul_le_self a b)
    _ ≤ a' * b := h

theorem le_eulerTail (yy ss : Nat) (fuel n t acc : Nat) : acc ≤ eulerTail yy ss fuel n t acc := by
  induction fuel generalizing n t acc with
  | zero => exact le_rfl
  | succ fuel ih =>
    unfold eulerTail
    split
    · exact le_rfl
    · exact (Nat.le_add_right _ _).trans (ih _ _ _)

/-- Euler's sum grows with its first term and with the ratio of its terms. -/
theorem eulerTail_mono {yy ss yy' ss' : Nat} (hss : 0 < ss) (hss' : 0 < ss') (hratio : yy * ss' ≤ yy' * ss) (fuel n : Nat)
    {t t' acc acc' : Nat} (ht : t ≤ t') (hacc : acc ≤ acc') :
    eulerTail yy ss fuel n t acc ≤ eulerTail yy' ss' fuel n t' acc' := by
  induction fuel generalizing n t t' acc acc' with
  | zero => exact hacc
  | succ fuel ih =>
    by_cases hzero : t = 0
    · refine le_trans ?_ (hacc.trans (le_eulerTail _ _ _ _ _ _))
      rw [eulerTail, if_pos hzero]
    · have hterm : t * (2 * n + 2) * yy / ((2 * n + 3) * ss) ≤ t' * (2 * n + 2) * yy' / ((2 * n + 3) * ss') := by
        refine div_le_div_of_cross (by positivity) (by positivity) ?_
        calc t * (2 * n + 2) * yy * ((2 * n + 3) * ss') = t * ((2 * n + 2) * (2 * n + 3)) * (yy * ss') := by ring
          _ ≤ t' * ((2 * n + 2) * (2 * n + 3)) * (yy' * ss) := Nat.mul_le_mul (Nat.mul_le_mul_right _ ht) hratio
          _ = t' * (2 * n + 2) * yy' * ((2 * n + 3) * ss) := by ring
      rw [eulerTail, eulerTail, if_neg hzero, if_neg (by omega)]
      exact ih (n + 1) hterm (Nat.add_le_add hacc hterm)

/-- The fixed-point arctangent of one ratio is at most that of another, where its first term and the ratio of its terms
are. -/
theorem atanFix_le_of_cross (p : Nat) {y x y' x' : Nat} (hx : 0 < x) (hx' : 0 < x')
    (hfirst : x * y * (x' * x' + y' * y') ≤ x' * y' * (x * x + y * y))
    (hratio : y * y * (x' * x' + y' * y') ≤ y' * y' * (x * x + y * y)) : atanFix p y x ≤ atanFix p y' x' := by
  have hss : 0 < x * x + y * y := by positivity
  have hss' : 0 < x' * x' + y' * y' := by positivity
  have hterm : 2 ^ p * (x * y) / (x * x + y * y) ≤ 2 ^ p * (x' * y') / (x' * x' + y' * y') := by
    refine div_le_div_of_cross hss hss' ?_
    rw [mul_assoc (2 ^ p), mul_assoc (2 ^ p)]
    exact Nat.mul_le_mul_left _ hfirst
  exact eulerTail_mono hss hss' hratio _ _ hterm hterm

/-- In the first octant the arctangent is at most that of the diagonal. -/
theorem atanFix_le_diagonal (p : Nat) {y x : Nat} (hx : 0 < x) (hyx : y ≤ x) : atanFix p y x ≤ atanFix p 1 1 := by
  have hsq : y * y ≤ x * x := Nat.mul_le_mul hyx hyx
  refine atanFix_le_of_cross p hx one_pos ?_ (by omega)
  have htwo : 2 * (x * y) ≤ x * x + y * y := by
    obtain ⟨k, rfl⟩ := Nat.exists_eq_add_of_le hyx
    have hexp : (y + k) * (y + k) + y * y = 2 * ((y + k) * y) + k * k := by ring
    omega
  omega

/-- On the diagonal the arctangent does not depend on the distance from the origin. -/
theorem atanFix_diagonal (p : Nat) {x : Nat} (hx : 0 < x) : atanFix p x x = atanFix p 1 1 :=
  le_antisymm (atanFix_le_diagonal p hx le_rfl) (atanFix_le_of_cross p one_pos hx (by ring_nf; rfl) (by ring_nf; rfl))

/-! ## Rounding the diagonal's angle -/

/-- With `p` fraction bits, π/4, π/2 and π made of the diagonal's angle round to their nearest patterns. -/
structure RoundsPi (p : Nat) : Prop where
  quarter : roundMag (atanFix p 1 1 * 2 ^ unitExp) (2 ^ p) = quarterPiMag
  half : roundMag (2 * atanFix p 1 1 * 2 ^ unitExp) (2 ^ p) = halfPiMag
  full : roundMag (4 * atanFix p 1 1 * 2 ^ unitExp) (2 ^ p) = piMag

/-- The fraction bits that operands of 16 bits have (log 3). -/
theorem roundsPi_of_sampleBits {j : Nat} (hj : j ≤ 15) : RoundsPi (256 + 3 * j) := by
  have hquarter : ∀ j : Fin 16,
      roundMag (atanFix (256 + 3 * j.val) 1 1 * 2 ^ unitExp) (2 ^ (256 + 3 * j.val)) = quarterPiMag := by decide +kernel
  have hhalf : ∀ j : Fin 16,
      roundMag (2 * atanFix (256 + 3 * j.val) 1 1 * 2 ^ unitExp) (2 ^ (256 + 3 * j.val)) = halfPiMag := by decide +kernel
  have hfull : ∀ j : Fin 16,
      roundMag (4 * atanFix (256 + 3 * j.val) 1 1 * 2 ^ unitExp) (2 ^ (256 + 3 * j.val)) = piMag := by decide +kernel
  have hlt : j < 16 := by omega
  exact ⟨hquarter ⟨j, hlt⟩, hhalf ⟨j, hlt⟩, hfull ⟨j, hlt⟩⟩

/-- Sizes of 16-bit integers, in units, differ by at most 15 bits. -/
theorem roundsPi_atanBits {a b : Nat} (ha : 0 < a) (hb : 0 < b) (ha' : a ≤ 32768) (hb' : b ≤ 32768) :
    RoundsPi (atanBits (a * 2 ^ unitExp) (b * 2 ^ unitExp)) := by
  have hlow : ∀ n, 0 < n → unitExp ≤ Nat.log2 (n * 2 ^ unitExp) := fun n hn => by
    rw [Nat.le_log2 (by positivity)]
    exact Nat.le_mul_of_pos_left _ hn
  have hhigh : ∀ n, 0 < n → n ≤ 32768 → Nat.log2 (n * 2 ^ unitExp) < 16 + unitExp := fun n hn hle => by
    rw [Nat.log2_lt (by positivity), pow_add]
    exact Nat.mul_lt_mul_of_pos_right (by omega) (by positivity)
  have hmax := hhigh (max a b) (lt_max_of_lt_left ha) (max_le ha' hb')
  have hmin := hlow (min a b) (lt_min ha hb)
  rw [← Nat.mul_max_mul_right] at hmax
  rw [← Nat.mul_min_mul_right] at hmin
  exact roundsPi_of_sampleBits (by omega)

/-! ## The angle of a point -/

section

variable {y x : Nat} (hbits : RoundsPi (atanBits y x)) (hx : 0 < x) (hy : 0 < y)

theorem angleMag_le_of_angleFix {xneg : Bool} {v m : Nat} (hv : angleFix (atanBits y x) y x xneg ≤ v)
    (hm : roundMag (v * 2 ^ unitExp) (2 ^ atanBits y x) = m) : angleMag y x xneg ≤ m := by
  rw [← hm, angleMag]
  exact roundMag_mono (Nat.two_pow_pos _) (Nat.mul_le_mul_right _ hv)

theorem le_angleMag_of_angleFix {xneg : Bool} {v m : Nat} (hv : v ≤ angleFix (atanBits y x) y x xneg)
    (hm : roundMag (v * 2 ^ unitExp) (2 ^ atanBits y x) = m) : m ≤ angleMag y x xneg := by
  rw [← hm, angleMag]
  exact roundMag_mono (Nat.two_pow_pos _) (Nat.mul_le_mul_right _ hv)

include hbits

include hx in
/-- In the first octant the angle is at most π/4 rounded. -/
theorem angleMag_le_quarterPi (hyx : y ≤ x) : angleMag y x false ≤ quarterPiMag := by
  refine angleMag_le_of_angleFix ?_ hbits.quarter
  rw [angleFix, if_pos hyx, if_neg Bool.false_ne_true]
  exact atanFix_le_diagonal _ hx hyx

include hx in
/-- On the diagonal it is π/4 rounded. -/
theorem angleMag_diagonal (hyx : y = x) : angleMag y x false = quarterPiMag := by
  subst hyx
  rw [← hbits.quarter, angleMag, angleFix, if_pos le_rfl, if_neg Bool.false_ne_true, atanFix_diagonal _ hx]

include hx in
/-- In the first quadrant the angle is at most π/2 rounded. -/
theorem angleMag_le_halfPi : angleMag y x false ≤ halfPiMag := by
  refine angleMag_le_of_angleFix ?_ hbits.half
  rw [angleFix]
  split
  · have := atanFix_le_diagonal (atanBits y x) hx (by assumption)
    rw [if_neg Bool.false_ne_true]
    omega
  · rw [if_neg hx.ne', if_neg Bool.false_ne_true]
    omega

include hx hy

/-- In the second quadrant the angle is from π/2 to π rounded. -/
theorem angleMag_bounds_of_neg : halfPiMag ≤ angleMag y x true ∧ angleMag y x true ≤ piMag := by
  have hfix : 2 * atanFix (atanBits y x) 1 1 ≤ angleFix (atanBits y x) y x true ∧
      angleFix (atanBits y x) y x true ≤ 4 * atanFix (atanBits y x) 1 1 := by
    rw [angleFix]
    split
    · have := atanFix_le_diagonal (atanBits y x) hx (by assumption)
      rw [if_pos rfl]
      omega
    · have := atanFix_le_diagonal (atanBits y x) hy (x := y) (y := x) (by omega)
      rw [if_neg hx.ne', if_pos rfl]
      omega
  exact ⟨le_angleMag_of_angleFix hfix.left hbits.half, angleMag_le_of_angleFix hfix.right hbits.full⟩

end

/-! ## The angle of a sample -/

/-- The size of the reference's angle of a pair of raw values, the second one negated (R112). -/
def sampleAngle (num az : Int) : Nat := refAtan2Mag (f64OfInt num) (f64OfInt (-az))

/-- A raw value's size. -/
def SampleSized (v : Int) : Prop := v.natAbs ≤ 32768

theorem sampleSized_raw (w : BitVec 16) : SampleSized (raw w) := by
  obtain ⟨hlo, hhi⟩ := raw_bounds w
  unfold SampleSized
  omega

theorem SampleSized.neg {v : Int} (h : SampleSized v) : SampleSized (-v) := by
  unfold SampleSized at *
  omega

theorem SampleSized.le {v : Int} (h : SampleSized v) : v.natAbs ≤ 2 ^ 53 := by
  unfold SampleSized at h
  omega

theorem SampleSized.isFinite {v : Int} (h : SampleSized v) : isFinite (f64OfInt v) = true := (f64OfInt_exact_of_le h.le).left

section

variable {num az : Int} (hnum : SampleSized num) (haz : SampleSized az)

include hnum haz

/-- The three cases of the reference's angle on integers: two special ones (log 3) and the point's. -/
theorem sampleAngle_eq :
    sampleAngle num az =
      if num = 0 then (if 0 < az then piMag else 0)
      else if az = 0 then halfPiMag
      else angleMag (num.natAbs * 2 ^ unitExp) (az.natAbs * 2 ^ unitExp) (decide (0 < az)) := by
  have hsign : signOf (f64OfInt (-az)) = decide (0 < az) := by
    rw [signOf_f64OfInt, decide_eq_decide]
    omega
  simp only [sampleAngle, refAtan2Mag, isInf_of_isFinite hnum.isFinite, isInf_of_isFinite haz.neg.isFinite,
    isZero_f64OfInt hnum.le, isZero_f64OfInt haz.neg.le, hsign, unitsOf_f64OfInt hnum.le, unitsOf_f64OfInt haz.neg.le,
    Int.natAbs_neg, neg_eq_zero, decide_eq_true_eq, Bool.false_eq_true, if_false]

theorem roundsPi_sample (hn : num ≠ 0) (ha : az ≠ 0) :
    RoundsPi (atanBits (num.natAbs * 2 ^ unitExp) (az.natAbs * 2 ^ unitExp)) :=
  roundsPi_atanBits (Int.natAbs_pos.mpr hn) (Int.natAbs_pos.mpr ha) hnum haz

theorem sampleAngle_le_quarterPi (h : (num.natAbs : Int) ≤ -az) : sampleAngle num az ≤ quarterPiMag := by
  rw [sampleAngle_eq hnum haz]
  split_ifs with hn hpos ha
  · omega
  · exact Nat.zero_le _
  · omega
  · rw [decide_eq_false (by omega)]
    exact angleMag_le_quarterPi (roundsPi_sample hnum haz hn ha) (by positivity) (Nat.mul_le_mul_right _ (by omega))

theorem sampleAngle_diagonal (h : (num.natAbs : Int) = -az) (hn : num ≠ 0) : sampleAngle num az = quarterPiMag := by
  have ha : az ≠ 0 := by omega
  rw [sampleAngle_eq hnum haz, if_neg hn, if_neg ha, decide_eq_false (by omega)]
  exact angleMag_diagonal (roundsPi_sample hnum haz hn ha) (by positivity) (congrArg (· * 2 ^ unitExp) (by omega))

theorem sampleAngle_le_halfPi (h : az < 0) : sampleAngle num az ≤ halfPiMag := by
  rw [sampleAngle_eq hnum haz]
  split_ifs with hn hpos ha
  · omega
  · exact Nat.zero_le _
  · omega
  · rw [decide_eq_false (by omega)]
    exact angleMag_le_halfPi (roundsPi_sample hnum haz hn ha) (by positivity)

theorem halfPi_le_sampleAngle (h : 0 < az) : halfPiMag ≤ sampleAngle num az := by
  rw [sampleAngle_eq hnum haz]
  split_ifs with hn ha
  · decide
  · omega
  · rw [decide_eq_true h]
    exact (angleMag_bounds_of_neg (roundsPi_sample hnum haz hn ha) (by positivity) (by positivity)).left

theorem sampleAngle_le_pi : sampleAngle num az ≤ piMag := by
  have hhalf : halfPiMag ≤ piMag := by decide
  rcases Int.lt_trichotomy az 0 with h | h | h
  · exact (sampleAngle_le_halfPi hnum haz h).trans hhalf
  · rw [sampleAngle_eq hnum haz]
    split_ifs
    · exact le_rfl
    · exact Nat.zero_le _
    · exact hhalf
  · rw [sampleAngle_eq hnum haz]
    split_ifs with hn ha
    · exact le_rfl
    · omega
    · rw [decide_eq_true h]
      exact (angleMag_bounds_of_neg (roundsPi_sample hnum haz hn ha) (by positivity) (by positivity)).right

end

/-! ## Degrees -/

/-- The size of an angle in degrees: times 180.0, over π, each rounded (R112). -/
def degreeMag (m : Nat) : Nat :=
  roundMag (magUnits (roundMag (magUnits m * unitsOf 0x4066800000000000#64) (2 ^ unitExp)) * 2 ^ unitExp)
    (unitsOf 0x400921FB54442D18#64)

theorem degreeMag_mono {m m' : Nat} (h : m ≤ m') : degreeMag m ≤ degreeMag m' := by
  refine roundMag_mono (by decide +kernel) (Nat.mul_le_mul_right _ (magUnits_strictMono.monotone ?_))
  exact roundMag_mono (Nat.two_pow_pos _) (Nat.mul_le_mul_right _ (magUnits_strictMono.monotone h))

theorem degreeMag_zero : degreeMag 0 = 0 := by decide +kernel

theorem degreeMag_quarterPi : degreeMag quarterPiMag = 0x4046800000000000 := by decide +kernel

theorem degreeMag_halfPi : degreeMag halfPiMag = 0x4056800000000000 := by decide +kernel

theorem degreeMag_pi : degreeMag piMag = 0x4066800000000000 := by decide +kernel

theorem degreeMag_lt (m : Nat) : degreeMag m < 2 ^ 63 := roundMag_lt _ _

/-- R112: 180.0 times an angle of at most π, over π. -/
theorem degrees_of_angle (d : Nat) {neg : Bool} {m : Nat} (hm : m ≤ piMag) :
    fdiv (d + 2) (fmul (d + 1) (pack neg m) 0x4066800000000000#64) 0x400921FB54442D18#64 = pack neg (degreeMag m) := by
  have hlt : m < 2 ^ 63 := lt_of_le_of_lt hm (by decide)
  have hfin : isFinite (pack neg m) = true := by
    rw [isFinite_iff, magOf_pack _ _ hlt]
    exact lt_of_le_of_lt hm (by decide)
  have hprod : roundMag (magUnits m * unitsOf 0x4066800000000000#64) (2 ^ unitExp) < infMag := by
    have hpi : roundMag (magUnits piMag * unitsOf 0x4066800000000000#64) (2 ^ unitExp) < infMag := by decide +kernel
    exact lt_of_le_of_lt
      (roundMag_mono (Nat.two_pow_pos _) (Nat.mul_le_mul_right _ (magUnits_strictMono.monotone hm))) hpi
  have hdeg : signOf 0x4066800000000000#64 = false := by decide
  have hpi : signOf 0x400921FB54442D18#64 = false := by decide
  have hmul : fmul (d + 1) (pack neg m) 0x4066800000000000#64 =
      pack neg (roundMag (magUnits m * unitsOf 0x4066800000000000#64) (2 ^ unitExp)) := by
    rw [fmul_of_finite _ hfin (by decide), signOf_pack _ _ hlt, hdeg, Bool.bne_false, unitsOf, magOf_pack _ _ hlt]
  have hlt' := roundMag_lt (magUnits m * unitsOf 0x4066800000000000#64) (2 ^ unitExp)
  have hmulFin : isFinite (pack neg (roundMag (magUnits m * unitsOf 0x4066800000000000#64) (2 ^ unitExp))) = true := by
    rw [isFinite_iff, magOf_pack _ _ hlt']
    exact hprod
  rw [hmul, fdiv_of_finite _ hmulFin (by decide) (by decide), signOf_pack _ _ hlt', hpi, Bool.bne_false]
  rw [unitsOf, magOf_pack _ _ hlt', degreeMag]

/-- R112: the inclination under the reference and the default constants: the sign of `num`, and the angle in degrees. -/
theorem incl_eq {c : Config} (hunit : c.atan2 = .reference) (hdeg : c.degNum = 0x4066800000000000#64)
    (hpi : c.pi = 0x400921FB54442D18#64) (d : Nat) {num az : Int} (hnum : SampleSized num) (haz : SampleSized az) :
    incl c d num az = pack (decide (num < 0)) (degreeMag (sampleAngle num az)) := by
  have hangle : atan2Of c d (f64OfInt num) (f64OfInt (-az)) = pack (decide (num < 0)) (sampleAngle num az) := by
    simp only [atan2Of, hunit, refAtan2, isNaN_of_isFinite hnum.isFinite, isNaN_of_isFinite haz.neg.isFinite,
      signOf_f64OfInt, Bool.or_false, Bool.false_eq_true, if_false]
    rfl
  rw [incl, hangle, hdeg, hpi, degrees_of_angle d (sampleAngle_le_pi hnum haz)]

/-- Settles O55: the axes are the special cases of the reference, and the degrees of 0, π/2 and π are exact. -/
theorem inclinationOnTheAxes : Obligations.InclinationOnTheAxes := by
  unfold Obligations.InclinationOnTheAxes
  intro c d num az hunit hdeg hpi
  have hnum := sampleSized_raw num
  have haz := sampleSized_raw az
  rw [incl_eq hunit hdeg hpi d hnum haz, sampleAngle_eq hnum haz]
  refine ⟨fun hn ha => ?_, fun hn ha => ?_, fun hn ha => ?_, fun hn ha => ?_⟩
  · rw [if_pos hn, if_neg (by omega), degreeMag_zero, hn]
    rfl
  · rw [if_pos hn, if_pos ha, degreeMag_pi, hn]
    rfl
  · rw [if_neg hn.ne', if_pos ha, degreeMag_halfPi, decide_eq_false (by omega)]
    rfl
  · rw [if_neg hn.ne, if_pos ha, degreeMag_halfPi, decide_eq_true hn]
    rfl

/-- Settles O56: each bound in degrees is the bound of the angle, at π/4, π/2 or π. -/
theorem inclinationWithinHalfTurn : Obligations.InclinationWithinHalfTurn := by
  unfold Obligations.InclinationWithinHalfTurn
  intro c d num az hunit hdeg hpi
  have hnum := sampleSized_raw num
  have haz := sampleSized_raw az
  rw [incl_eq hunit hdeg hpi d hnum haz]
  have hmag := magOf_pack (decide (raw num < 0)) _ (degreeMag_lt (sampleAngle (raw num) (raw az)))
  have hnumber : isNaN (pack (decide (raw num < 0)) (degreeMag (sampleAngle (raw num) (raw az)))) = false := by
    rw [isNaN_eq_false_iff, hmag]
    exact roundMag_le _ _
  refine ⟨?_, signOf_pack _ _ (degreeMag_lt _), fun h hn => ?_, fun h => ?_, fun h => ?_, fun h => ?_⟩
  · rw [fle_fabs_iff (by decide) (by decide), hmag]
    exact (degreeMag_mono (sampleAngle_le_pi hnum haz)).trans_eq degreeMag_pi
  · rw [sampleAngle_diagonal hnum haz h hn, degreeMag_quarterPi]
    cases decide (raw num < 0) <;> rfl
  · rw [fle_fabs_iff (by decide) (by decide), hmag]
    exact (degreeMag_mono (sampleAngle_le_quarterPi hnum haz h)).trans_eq degreeMag_quarterPi
  · rw [fle_fabs_iff (by decide) (by decide), hmag]
    exact (degreeMag_mono (sampleAngle_le_halfPi hnum haz h)).trans_eq degreeMag_halfPi
  · rw [le_fabs_iff (by decide) (by decide) hnumber, hmag]
    exact degreeMag_halfPi.symm.trans_le (degreeMag_mono (halfPi_le_sampleAngle hnum haz h))

end Sys2Proof.Machine

/-! PROOFS of the statements on the host's side: the calibration of a level body (R175) and the boot sequence (R204). -/

namespace Sys2Proof.Machine

/-! ## Operations on +0.0 -/

theorem fadd_zero_zero (d : Nat) : fadd d 0#64 0#64 = 0#64 := by
  rw [fadd_of_finite d (by decide) (by decide)]
  rfl

theorem fmul_zero (d : Nat) {a : F64} (ha : isFinite a = true) (hsign : signOf a = false) : fmul d 0#64 a = 0#64 := by
  have hunits : unitsOf 0#64 = 0 := rfl
  rw [fmul_of_finite d (by decide) ha, hsign, hunits, Nat.zero_mul, roundMag_zero (Nat.two_pow_pos _)]
  rfl

/-- +0.0 over a positive number, infinity included, is +0.0. -/
theorem fdiv_zero (d : Nat) {a : F64} (hnum : isNaN a = false) (hz : isZero a = false) (hsign : signOf a = false) :
    fdiv d 0#64 a = 0#64 := by
  have hunits : unitsOf 0#64 = 0 := rfl
  cases hinf : isInf a with
  | true =>
    rw [fdiv_of_isInf_right d (by decide) hinf, hsign]
    rfl
  | false =>
    have hfin : isFinite a = true := by
      rw [isNaN_eq_false_iff] at hnum
      rw [← Bool.not_eq_true, isInf_iff] at hinf
      rw [isFinite_iff]
      omega
    rw [fdiv_of_finite d (by decide) hfin hz, hsign, hunits, Nat.zero_mul, roundMag_zero (unitsOf_pos_iff.mpr hz)]
    rfl

/-- A positive integer, however large, converts to a positive number. -/
theorem f64OfInt_pos {n : Nat} (hn : 0 < n) :
    isNaN (f64OfInt n) = false ∧ isZero (f64OfInt n) = false ∧ signOf (f64OfInt n) = false := by
  have hmag : magOf (f64OfInt n) = roundMag (n * 2 ^ unitExp) 1 := magOf_pack _ _ (roundMag_lt _ _)
  have hpos : 1 ≤ roundMag (n * 2 ^ unitExp) 1 :=
    le_roundMag_of_le one_pos (by decide) (Nat.mul_pos hn (Nat.two_pow_pos _))
  refine ⟨?_, ?_, ?_⟩
  · rw [isNaN_eq_false_iff, hmag]
    exact roundMag_le _ _
  · rw [← Bool.not_eq_true, isZero_iff, hmag]
    omega
  · rw [signOf_f64OfInt]
    exact decide_eq_false (by omega)

/-! ## The means that stay zero -/

/-- One full read of a body at rest and level (L1.2). -/
def levelRead : SixAxis := ⟨0x0000#16, 0x0000#16, 0xC000#16, 0x0000#16, 0x0000#16, 0x0000#16⟩

/-- R175: a term of +0.0 keeps a mean of +0.0. -/
theorem meanStep_zero {c : Config} (hc : 0 < c.nCal) (d : Nat) : meanStep c d 0#64 0#64 = 0#64 := by
  obtain ⟨hnum, hz, hsign⟩ := f64OfInt_pos hc
  rw [meanStep, fdiv_zero d hnum hz hsign, fadd_zero_zero]

theorem scale_zero {c : Config} (hhalf : c.halfRange = 0x40E0000000000000#64) (hfsr : c.gyroFsr = 0x407F400000000000#64)
    (d : Nat) : scale c d 0 c.gyroFsr = 0#64 := by
  rw [scale, hhalf, hfsr, f64OfInt_zero, fmul_zero d (by decide) (by decide), fdiv_zero _ (by decide) (by decide) (by decide)]

/-- The five means that a level body leaves at +0.0. -/
structure LevelMeans (b : Bias) : Prop where
  gx : b.gx = 0#64
  gy : b.gy = 0#64
  gz : b.gz = 0#64
  roll : b.roll = 0#64
  pitch : b.pitch = 0#64

/-- The build of the statement: the constants of R7 that the five means read. -/
structure LevelBuild (c : Config) : Prop where
  unit : c.atan2 = .reference
  degNum : c.degNum = 0x4066800000000000#64
  pi : c.pi = 0x400921FB54442D18#64
  halfRange : c.halfRange = 0x40E0000000000000#64
  gyroFsr : c.gyroFsr = 0x407F400000000000#64
  nCal : 0 < c.nCal

theorem calibrateStep_levelMeans {c : Config} (hc : LevelBuild c) (d : Nat) {b : Bias} (hb : LevelMeans b) :
    LevelMeans (calibrateStep c d b levelRead) := by
  have hraw : raw 0x0000#16 = 0 := by decide
  have hscale : ∀ d, scale c d (raw 0x0000#16) c.gyroFsr = 0#64 := by
    rw [hraw]
    exact scale_zero hc.halfRange hc.gyroFsr
  have hincl : ∀ d, incl c d (raw 0x0000#16) (raw 0xC000#16) = 0#64 := fun d =>
    (inclinationOnTheAxes c d 0x0000#16 0xC000#16 hc.unit hc.degNum hc.pi).left hraw (by decide)
  have hmean := meanStep_zero hc.nCal
  constructor
  · simp only [calibrateStep, levelRead, hb.gx, hscale, hmean]
  · simp only [calibrateStep, levelRead, hb.gy, hscale, hmean]
  · simp only [calibrateStep, levelRead, hb.gz, hscale, hmean]
  · simp only [calibrateStep, levelRead, hb.roll, hincl, hmean]
  · simp only [calibrateStep, levelRead, hb.pitch, hincl, hmean]

theorem calibrateFrom_levelMeans {c : Config} (hc : LevelBuild c) (n : Nat) (d : Nat) {b : Bias} (hb : LevelMeans b) :
    LevelMeans (calibrateFrom c d b (List.replicate n levelRead)) := by
  induction n generalizing d b with
  | zero => exact hb
  | succ n ih =>
    rw [List.replicate_succ, calibrateFrom]
    exact ih _ (calibrateStep_levelMeans hc d hb)

/-! ## The mean of a constant term -/

theorem SameDatum.eq_of_number {a b : F64} (h : SameDatum a b) (hb : isNaN b = false) : a = b := by
  obtain heq | ⟨-, hnan⟩ := h
  · exact heq
  · exact absurd hnan (by simp [hb])

/-- R175: the accelerometer-z mean of one read taken again and again is a repeated sum, up to the free indices. -/
theorem calibrateFrom_az {c : Config} {x : SixAxis} {q : F64}
    (hq : ∀ d e, SameDatum (fdiv d (scale c e (raw x.az) c.accFsr) (f64OfInt c.nCal)) q) (n d : Nat) {b : Bias} {m : F64}
    (hb : SameDatum b.az m) :
    SameDatum (calibrateFrom c d b (List.replicate n x)).az ((fun m => fadd 0 m q)^[n] m) := by
  induction n generalizing d b m with
  | zero => exact hb
  | succ n ih =>
    rw [List.replicate_succ, calibrateFrom, Function.iterate_succ_apply]
    refine ih (d + 26) ?_
    rw [calibrateStep, meanStep]
    exact hb.fadd (hq _ _) _ _

/-- The size of a sum of two data of one sign, were there no infinity. -/
def addWide (u m : Nat) : Nat := roundWide (magUnits m + u) 1

theorem le_addWide (u m : Nat) : m ≤ addWide u m := le_roundWide_of_le one_pos (by omega)

/-- Repeated addition of one negative datum, as long as the sum is finite. -/
theorem iterate_fadd_negative {q : Nat} (hq : 0 < q) (hqfin : q < infMag) (n : Nat) {m : Nat}
    (hfin : (addWide (magUnits q))^[n] m < infMag) :
    (fun x => fadd 0 x (pack true q))^[n] (pack true m) = pack true ((addWide (magUnits q))^[n] m) := by
  induction n generalizing m with
  | zero => rfl
  | succ n ih =>
    rw [Function.iterate_succ_apply] at hfin
    have hnext : addWide (magUnits q) m < infMag :=
      lt_of_le_of_lt (Function.id_le_iterate_of_id_le (fun k => le_addWide (magUnits q) k) n _) hfin
    have hm : m < infMag := lt_of_le_of_lt (le_addWide _ m) hnext
    have hinf : infMag < 2 ^ 63 := by decide
    have hfinite : ∀ k, k < infMag → isFinite (pack true k) = true := fun k hk => by
      rw [isFinite_iff, magOf_pack _ _ (hk.trans hinf)]
      exact hk
    have hunits : ∀ k, k < infMag → signedUnits (pack true k) = -(magUnits k : Int) := fun k hk => by
      rw [signedUnits, signOf_pack _ _ (hk.trans hinf), if_pos rfl, unitsOf, magOf_pack _ _ (hk.trans hinf)]
    have hpos : 0 < magUnits q := magUnits_zero ▸ magUnits_strictMono hq
    have hsum : fadd 0 (pack true m) (pack true q) = pack true (addWide (magUnits q) m) := by
      have habs : (-(magUnits m : Int) + -(magUnits q : Int)).natAbs = magUnits m + magUnits q := by omega
      rw [fadd_of_finite 0 (hfinite m hm) (hfinite q hqfin), hunits m hm, hunits q hqfin, if_neg (by omega),
        decide_eq_true (by omega), habs, roundMag_eq, min_eq_right]
      · rfl
      · exact hnext.le
    rw [Function.iterate_succ_apply, Function.iterate_succ_apply, hsum]
    exact ih hfin

/-- Numbers of at least 53 bits are rounded in the same way at every exponent. -/
theorem roundWide_mul_two_pow {n : Nat} (hn : 2 ^ 52 ≤ n) (j : Nat) :
    roundWide (n * 2 ^ j) 1 = roundWide n 1 + j * 2 ^ 52 := by
  have hne : n ≠ 0 := by omega
  have hlog : 52 ≤ Nat.log2 n := (Nat.le_log2 hne).mpr hn
  have hshift : Nat.log2 (n * 2 ^ j) = Nat.log2 n + j := by
    rw [Nat.log2_eq_iff (by positivity), pow_add, show Nat.log2 n + j + 1 = Nat.log2 n + 1 + j by omega, pow_add _ _ j]
    exact ⟨Nat.mul_le_mul_right _ (Nat.log2_self_le hne), Nat.mul_lt_mul_of_pos_right Nat.lt_log2_self (by positivity)⟩
  have hexp : roundExp (n * 2 ^ j) 1 = roundExp n 1 + j := by
    rw [roundExp, roundExp, Nat.div_one, Nat.div_one, hshift]
    omega
  have hsig : roundSig (n * 2 ^ j) 1 = roundSig n 1 := by
    rw [roundSig, roundSig, hexp, pow_add, ← mul_assoc, rneDiv_scale _ _ (Nat.two_pow_pos j)]
  rw [roundWide, roundWide, hexp, hsig]
  ring

/-- Raising the exponent of a normal pattern scales its value. -/
theorem magUnits_add_exponent {m : Nat} (hm : 2 ^ 52 ≤ m) (j : Nat) : magUnits (m + j * 2 ^ 52) = magUnits m * 2 ^ j := by
  obtain ⟨q, k, rfl, hq, hnorm⟩ := exists_significand m
  have hfull : 2 ^ 52 ≤ q := by
    obtain rfl | h := hnorm
    · omega
    · exact h
  have hsum : k * 2 ^ 52 + q + j * 2 ^ 52 = (k + j) * 2 ^ 52 + q := by ring
  rw [hsum, magUnits_significand hq.le (.inr hfull), magUnits_significand hq.le hnorm, pow_add, mul_assoc]

/-- So repeated sums may be taken at a low exponent, where the integers are short. -/
theorem iterate_addWide_add_exponent {u m : Nat} (hm : 2 ^ 52 ≤ m) (j n : Nat) :
    (addWide (u * 2 ^ j))^[n] (m + j * 2 ^ 52) = (addWide u)^[n] m + j * 2 ^ 52 := by
  induction n generalizing m with
  | zero => rfl
  | succ n ih =>
    have hstep : addWide (u * 2 ^ j) (m + j * 2 ^ 52) = addWide u m + j * 2 ^ 52 := by
      have hunits : 2 ^ 52 ≤ magUnits m + u := by
        have := magUnits_strictMono.monotone hm
        have hmin : magUnits (2 ^ 52) = 2 ^ 52 := by decide
        omega
      rw [addWide, magUnits_add_exponent hm, ← add_mul, roundWide_mul_two_pow hunits]
      rfl
    rw [Function.iterate_succ_apply, Function.iterate_succ_apply, hstep]
    exact ih (hm.trans (le_addWide u m))

/-! ## The accelerometer-z mean of a level body -/

/-- The pattern of -1/1000 is that of a significand at this exponent. -/
def milliExp : Nat := 1012

/-- The significand of 1/1000, the pattern at exponent 0. -/
def milliSig : Nat := 0x10624DD2F1A9FC

/-- The pattern of the mean of 1000 terms of -1/1000 (L1.2). -/
def levelMeanMag : Nat := 0x3FF0000000000003

/-- 1000 terms of a significand each, rounded after each addition: a quarter of the additions at a time. -/
theorem iterate_addWide_milli : (addWide milliSig)^[999] milliSig + milliExp * 2 ^ 52 = levelMeanMag := by
  have hquarter : (addWide milliSig)^[249] milliSig = 40532396646334467 := by decide +kernel
  have hhalf : (addWide milliSig)^[250] 40532396646334467 = 45035996273704963 := by decide +kernel
  have hthird : (addWide milliSig)^[250] 45035996273704963 = 47287796087390213 := by decide +kernel
  have hwhole : (addWide milliSig)^[250] 47287796087390213 = 49539595901075459 := by decide +kernel
  rw [show 999 = 250 + (250 + (250 + 249)) from rfl, Function.iterate_add_apply, Function.iterate_add_apply,
    Function.iterate_add_apply, hquarter, hhalf, hthird, hwhole]
  rfl

/-- The pattern of 1/1000 rounded. -/
def milliMag : Nat := milliSig + milliExp * 2 ^ 52

theorem magUnits_milliMag : magUnits milliMag = milliSig * 2 ^ milliExp := by
  have hsig : magUnits milliSig = milliSig := by decide +kernel
  exact (magUnits_add_exponent (by decide) milliExp).trans (congrArg (· * 2 ^ milliExp) hsig)

theorem pack_milliMag : pack true milliMag = 0xBF50624DD2F1A9FC#64 := by decide +kernel

/-- The repeated sum from +0.0: the first term, then 999 additions. -/
theorem iterate_fadd_milli : (fun x => fadd 0 x (pack true milliMag))^[1000] 0#64 = pack true levelMeanMag := by
  have hfirst : fadd 0 0#64 (pack true milliMag) = pack true milliMag := by
    rw [pack_milliMag]
    decide +kernel
  have hsum : (addWide (magUnits milliMag))^[999] milliMag = levelMeanMag := by
    rw [magUnits_milliMag]
    exact (iterate_addWide_add_exponent (by decide) milliExp 999).trans iterate_addWide_milli
  have hfinite : (addWide (magUnits milliMag))^[999] milliMag < infMag := by
    rw [hsum]
    decide
  rw [Function.iterate_succ_apply, hfirst, iterate_fadd_negative (by decide) (by decide) 999 hfinite, hsum]

/-- R175: each read of -1.0 g adds -1/1000 rounded, up to the free indices. -/
theorem sameDatum_levelTerm {c : Config} (hhalf : c.halfRange = 0x40E0000000000000#64)
    (hfsr : c.accFsr = 0x4000000000000000#64) (hcal : c.nCal = 1000) (d e : Nat) :
    SameDatum (fdiv d (scale c e (raw 0xC000#16) c.accFsr) (f64OfInt c.nCal)) (pack true milliMag) := by
  have hterm : fdiv 0 (fdiv 0 (fmul 0 (f64OfInt (raw 0xC000#16)) 0x4000000000000000#64) 0x40E0000000000000#64)
      (f64OfInt (1000 : Nat)) = pack true milliMag := by decide +kernel
  rw [scale, hhalf, hfsr, hcal, ← hterm]
  exact SameDatum.fdiv ((fmul_index e 0 _ _).fdiv (.refl _) _ _) (.refl _) d 0

theorem calibrate_level_az {c : Config} (hhalf : c.halfRange = 0x40E0000000000000#64)
    (hfsr : c.accFsr = 0x4000000000000000#64) (hcal : c.nCal = 1000) (n : Nat) :
    SameDatum (calibrate c (List.replicate n levelRead)).az ((fun x => fadd 0 x (pack true milliMag))^[n] 0#64) := by
  have hterm := sameDatum_levelTerm hhalf hfsr hcal
  rw [calibrate]
  exact calibrateFrom_az (x := levelRead) hterm n 0 (b := {}) (m := 0#64) (.refl _)

/-- Settles O59: the terms of a level body are +0.0 but for the accelerometer-z one, whose repeated sum is computed. -/
theorem levelCalibrationIsZero : Obligations.LevelCalibrationIsZero := by
  unfold Obligations.LevelCalibrationIsZero
  intro c n hunit hdeg hpi hhalf hgyro hcal b
  have hmeans : LevelMeans b :=
    calibrateFrom_levelMeans ⟨hunit, hdeg, hpi, hhalf, hgyro, hcal⟩ n 0 ⟨rfl, rfl, rfl, rfl, rfl⟩
  refine ⟨hmeans.gx, hmeans.gy, hmeans.gz, hmeans.roll, hmeans.pitch, ?_⟩
  intro hacc hthousand hn
  have hsum : (fun x => fadd 0 x (pack true milliMag))^[n] 0#64 = pack true levelMeanMag := hn ▸ iterate_fadd_milli
  have haz := calibrate_level_az hhalf hacc hthousand n
  rw [hsum] at haz
  exact haz.eq_of_number (by decide)

/-! ## The boot sequence -/

theorem core_run_of_step {M : Host.Core} {n : Nat} {s t : M.State} (h : M.step s = .next t) :
    M.run (n + 1) s = M.run n t := by
  simp only [Host.Core.run, h]

/-- A run whose next item is a host line runs the line's instruction first. -/
theorem core_run_line {l : HostLine} {lines : List HostLine} {n : Nat} {s t : State}
    (he : s.inbox = hostProgram (l :: lines)) (h : exec (expandLine l) (popInbox (hostProgram lines) s) = .next t) :
    Host.Core.run Sys2Proof.core (n + 1) s = Host.Core.run Sys2Proof.core n t :=
  core_run_of_step ((step_of_frame he (decodeOfEncode _ (expandLine_wellFormed l))).trans h)

/-- R62: a line that writes a register stores its value. -/
theorem exec_writeLine {r : Reg} {s : State} (h : Writable r s) (v : Word) :
    exec (writeLine r v) s = .next (okayWrite (storeReg r v s)) := by
  rw [writeLine, exec_wr, execWr_of_target (target_regOffset r)]
  exact writeReg_of_stored h v

/-- Register writes by name, then the rest of a program. -/
def writeLines (ws : List (Reg × Word)) (rest : List HostLine) : List HostLine := ws.map (fun w => .wr w.1 w.2) ++ rest

/-- The state after accepted register writes. -/
def storeAll (ws : List (Reg × Word)) (s : State) : State := ws.foldl (fun t w => okayWrite (storeReg w.1 w.2 t)) s

/-- What the host does next is no part of a register write. -/
theorem popInbox_store (l l' : List Event) (r : Reg) (v : Word) (s : State) :
    popInbox l (okayWrite (storeReg r v (popInbox l' s))) = okayWrite (storeReg r v (popInbox l s)) := by
  cases r <;> rfl

/-- R204 step 2: with the biases unlocked, bias writes are all stored. -/
theorem core_run_biasWrites (ws : List (Reg × Word)) (rest : List HostLine) (n : Nat) {s : State}
    (hws : ∀ w ∈ ws, regAccess w.1 = .rwl) (hu : s.biasLocked = false) (he : s.inbox = hostProgram (writeLines ws rest)) :
    Host.Core.run Sys2Proof.core (n + ws.length) s =
      Host.Core.run Sys2Proof.core n (storeAll ws (popInbox (hostProgram rest) s)) := by
  induction ws generalizing s with
  | nil =>
    have hsame : popInbox (hostProgram rest) s = s := by
      rw [show hostProgram rest = s.inbox from he.symm]
      rfl
    rw [hsame]
    rfl
  | cons w ws ih =>
    obtain ⟨hw, hrest⟩ := List.forall_mem_cons.mp hws
    have hexec : exec (expandLine (.wr w.1 w.2)) (popInbox (hostProgram (writeLines ws rest)) s) =
        .next (okayWrite (storeReg w.1 w.2 (popInbox (hostProgram (writeLines ws rest)) s))) :=
      exec_writeLine (s := popInbox (hostProgram (writeLines ws rest)) s) (.inr ⟨hw, hu⟩) w.2
    have hnext := ih (s := okayWrite (storeReg w.1 w.2 (popInbox (hostProgram (writeLines ws rest)) s))) hrest
      (by simpa using hu) (by simp)
    rw [popInbox_store] at hnext
    exact (core_run_line he hexec).trans hnext

/-- R91: the lines that lock, write TS and synchronise, as what they do. -/
theorem exec_lockLine (s : State) : exec (expandLine .lock) s = .next (okayWrite (setErr .ok (lockBias s))) :=
  cmdWritePerformsCommand .lock s

theorem exec_wrtLine (ts : Nat) (s : State) :
    exec (expandLine (.wrt ts)) s = .next (okayWrite (storeReg .ts (BitVec.ofNat 64 ts) s)) :=
  exec_writeLine (.inl rfl) _

theorem exec_syncLine {s : State} (h : tsOf s < s.cfg.nsPerS) :
    exec (expandLine .sync) s = .next (okayWrite (setErr .ok (latchTs s))) :=
  (cmdWritePerformsCommand .sync s).trans (execSync_of_inRange h)

/-- R204 steps 3 and 4: the block locked and synchronised to a timestamp, with nothing left on the port. -/
def lockedAndSynced (ts : BitVec 30) (s : State) : State :=
  { s with
    biasLocked := true, tsValid := true, prevTs := ts, err := 0x00#8, inputs := { s.inputs with ts := ts }
    resp := some ⟨.okay, none⟩, inbox := [] }

/-- R204 steps 3 and 4: LOCK, the TS write and SYNC. -/
theorem core_run_lockAndSync {ts : Nat} {s : State} (he : s.inbox = hostProgram [.lock, .wrt ts, .sync])
    (hts : ((BitVec.ofNat 64 ts).setWidth 30).toNat < s.cfg.nsPerS) :
    Host.Core.run Sys2Proof.core 3 s = .next (lockedAndSynced ((BitVec.ofNat 64 ts).setWidth 30) s) := by
  have hlock := core_run_line (n := 2) he (exec_lockLine _)
  have hwrt := core_run_line (n := 1) (l := .wrt ts) (lines := [.sync])
    (s := okayWrite (setErr .ok (lockBias (popInbox (hostProgram [.wrt ts, .sync]) s)))) rfl (exec_wrtLine ts _)
  have hsync := core_run_line (n := 0) (l := .sync) (lines := [])
    (s := okayWrite (storeReg .ts (BitVec.ofNat 64 ts)
      (popInbox (hostProgram [.sync]) (okayWrite (setErr .ok (lockBias (popInbox (hostProgram [.wrt ts, .sync]) s)))))))
    rfl (exec_syncLine hts)
  have hstate : okayWrite (setErr .ok (latchTs (popInbox (hostProgram []) (okayWrite (storeReg .ts (BitVec.ofNat 64 ts)
      (popInbox (hostProgram [.sync]) (okayWrite (setErr .ok (lockBias (popInbox (hostProgram [.wrt ts, .sync]) s))))))))))
      = lockedAndSynced ((BitVec.ofNat 64 ts).setWidth 30) s := by
    simp only [okayWrite, respond, setErr, latchTs, popInbox, storeReg, lockBias, lockedAndSynced]
    rfl
  exact ((hlock.trans hwrt).trans hsync).trans (congrArg Host.Outcome.next hstate)

/-- Settles O60: the biases are loaded, locked, and TS, in range, is written and latched. -/
theorem bootSequenceAdmitsUpdate : Obligations.BootSequenceAdmitsUpdate := by
  unfold Obligations.BootSequenceAdmitsUpdate
  intro b ts hts
  have hns : ((BitVec.ofNat 64 ts).setWidth 30).toNat = ts := by
    rw [BitVec.toNat_setWidth, BitVec.toNat_ofNat]
    omega
  have hlatched : (BitVec.ofNat 64 ts).setWidth 30 = BitVec.ofNat 30 ts := by
    apply BitVec.eq_of_toNat_eq
    rw [hns, BitVec.toNat_ofNat]
    omega
  have hbias := core_run_biasWrites [(.biasGx, b.gx), (.biasGy, b.gy), (.biasGz, b.gz), (.biasRoll, b.roll),
    (.biasPitch, b.pitch), (.biasAz, b.az)] [.lock, .wrt ts, .sync] 3
    (s := popInbox (hostProgram (bootLines b ts)) State.reset) (by simp [regAccess]) rfl rfl
  have hlock := core_run_lockAndSync (ts := ts)
    (s := { State.reset with bias := b, resp := some ⟨.okay, none⟩, inbox := hostProgram [.lock, .wrt ts, .sync] }) rfl
    (hns.trans_lt hts)
  exact ⟨_, hbias.trans hlock, ⟨rfl, rfl, rfl⟩, rfl, hlatched, rfl, rfl⟩

end Sys2Proof.Machine
